-- ==== Sys2Proof/Word.lean ====
section
/-! DEFINITION. The number types of the Halcra 7204 and the fixed-size tables that hold one item per port, bank, group,
slot or space. A rank time is a natural number: the count of ck since the last power-on reset, not reduced (R1 compares
rank times as instants; the 48-bit value is `instant mod 2^48`, see assumption 1). -/

namespace Sys2Proof

/-- A byte of a frame, of a write slot or of a management register. -/
abbrev Byte := BitVec 8

/-- A row number as a request carries it: three bytes (Table 13-2). -/
abbrev Row := BitVec 24

/-- A column number as a request carries it: two bytes (Table 13-2). -/
abbrev Column := BitVec 16

/-- The 64 bytes of one burst, in frame order (R148, R152). -/
abbrev Block := Vector Byte 64

/-- A counter of Table 12-3: 32 bits, wrapping (R169). -/
abbrev Counter := BitVec 32

/-- A master port, MP0 to MP3 (section 4.5). -/
abbrev Port := Fin 4

/-- A bank of the rank, 0 to 15 (section 4.3). -/
abbrev Bank := Fin 16

/-- A bank group, 0 to 3 (section 4.3). -/
abbrev Group := Fin 4

/-- The four ports in the order MP0, MP1, MP2, MP3. -/
def allPorts : List Port := [0, 1, 2, 3]

/-- The sixteen banks, lowest number first. -/
def allBanks : List Bank := [0, 1, 2, 3, 4, 5, 6, 7, 8, 9, 10, 11, 12, 13, 14, 15]

/-- The four bank groups, lowest number first. -/
def allGroups : List Group := [0, 1, 2, 3]

/-- The eight write slots of a port, lowest number first. -/
def allSlots : List (Fin 8) := [0, 1, 2, 3, 4, 5, 6, 7]

/-- The four read-return spaces of a port. -/
def allSpaces : List (Fin 4) := [0, 1, 2, 3]

/-- Bank b belongs to bank group b div 4 (section 4.3). -/
def groupOf (b : Bank) : Group := ⟨b.val / 4, by omega⟩

/-- A table of `n` items, one per index. -/
abbrev Table (α : Type) (n : Nat) := Vector α n

namespace Table
variable {α β : Type} {n : Nat}

/-- The item at an index. -/
def look (t : Table α n) (i : Fin n) : α := t.get i

/-- The table with one item replaced. -/
def put (t : Table α n) (i : Fin n) (x : α) : Table α n := t.set i.val x i.isLt

/-- The table with one item changed. -/
def modify (t : Table α n) (i : Fin n) (f : α → α) : Table α n := put t i (f (look t i))

/-- The table with every item changed. -/
def map (t : Table α n) (f : α → β) : Table β n := Vector.ofFn fun i => f (look t i)

/-- The table that holds the same item everywhere. -/
def fill (n : Nat) (x : α) : Table α n := Vector.replicate n x

/-- Whether every item meets a test. -/
def all (t : Table α n) (f : α → Bool) : Bool := t.toList.all f

/-- Whether some item meets a test. -/
def any (t : Table α n) (f : α → Bool) : Bool := t.toList.any f

/-- How many items meet a test. -/
def count (t : Table α n) (f : α → Bool) : Nat := t.toList.countP f

end Table

end Sys2Proof
end

