-- ==== Sys2Proof/Config.lean ====
section
/-! DEFINITION. What the Halcra 7204 manual leaves open: free values with no body, so that nothing can be proved of them. -/

namespace Sys2Proof.Config

/-- The 64 bytes the DRAM devices put on the data bus during a READ burst that the idle step takes by itself. The manual
leaves the devices' contents outside the part (section 3.2), so the value is free; the argument is `State.freeIndex`, a
fresh number for each burst (assumption 4). -/
opaque busData : Nat → Block

/-- The write delay the staged view shows while the staged clock class is none of K1 to K4. R158 derives WD from the class
and gives none for another number, which a staged field may hold (R156); the argument is that number (assumption 5). -/
opaque writeDelayOfNoClass : Nat → Nat

/-- The address that follows FFFFH in a transfer of the management port. R175 has consecutive bytes follow with the address
increasing and states no address after the last (assumption 28). -/
opaque addressAfterTop : BitVec 16

end Sys2Proof.Config
end

