-- ==== Sys2Proof/Syntax.lean ====
section
/-! DEFINITION. The commands of the Halcra 7204: one constructor per row of spec/opcode_table.json, in the table's order,
with the operands the rules give the row. The table gives no row any bits, so no command is spelled by a word. -/

namespace Sys2Proof

/-- The header of an inbound frame that every request carries beside its kind (Table 13-1): sequence number, epoch, tag. -/
structure Header where
  seq   : Byte
  epoch : Byte
  tag   : Byte
  deriving DecidableEq, Repr

/-- The 62 holds of Table 2-1, by name. -/
inductive HoldId where
  | bankOpen (b : Bank)
  | bankColumn (b : Bank)
  | bankClose (b : Bank)
  | groupOpen (g : Group)
  | groupColumn (g : Group)
  | rankOpen
  | rankColumn
  | read
  | write
  | rankOperation
  | command
  deriving DecidableEq, Repr

/-- The commands the block takes: what its links, its management port, its lines, its clock and its arbiter bring about. -/
inductive Instr where
  /-- POWER_ON_RESET (R115): release of RESET_N, with the lane status of each port and the THOT level at the release. -/
  | powerOnReset (lanes : Table Bool 4) (thot : Bool)
  /-- LINK_UP (R134) of a port. -/
  | linkUp (p : Port)
  /-- LINK_DOWN (R134) of a port. -/
  | linkDown (p : Port)
  /-- THOT_ASSERTED (R101). -/
  | thotAsserted
  /-- THOT_DEASSERTED (R101). -/
  | thotDeasserted
  /-- FRAME_CRC_DISCARD (R135): the bytes of an inbound frame that fails its frame check. -/
  | frameCrcDiscard (p : Port) (bytes : List Byte)
  /-- FRAME_OUT_OF_SEQUENCE (R136): the sequence number of a sound frame. -/
  | frameOutOfSequence (p : Port) (seq : Byte)
  /-- JOIN (R139, R140) with its protocol revision. -/
  | join (p : Port) (h : Header) (revision : Byte)
  /-- LEAVE (R141). -/
  | leave (p : Port) (h : Header)
  /-- LEASE_EXTEND (R13) naming a bank, as the byte received (R173). -/
  | leaseExtend (p : Port) (h : Header) (bank : Byte)
  /-- CANCEL (R57) naming a target tag. -/
  | cancel (p : Port) (h : Header) (target : Byte)
  /-- SLEEP_VOTE (R127). -/
  | sleepVote (p : Port) (h : Header)
  /-- WAKE (R127). -/
  | wake (p : Port) (h : Header)
  /-- TEMP_REPORT (R100) with its two temperature bytes, signed two's complement. -/
  | tempReport (p : Port) (h : Header) (temperature : BitVec 16)
  /-- ROW_OPEN (R45). -/
  | rowOpen (p : Port) (h : Header) (bank : Byte) (row : Row)
  /-- COL_READ (R45); bit 0 of the flags is auto-close. -/
  | colRead (p : Port) (h : Header) (bank : Byte) (row : Row) (column : Column) (flags : Byte)
  /-- COL_WRITE (R148) with its 64 bytes. -/
  | colWrite (p : Port) (h : Header) (bank : Byte) (row : Row) (column : Column) (flags : Byte) (data : Block)
  /-- ROW_CLOSE (R45). -/
  | rowClose (p : Port) (h : Header) (bank : Byte)
  /-- HANDED_TO_LINK (R145): the link of a port takes the head frame. -/
  | handedToLink (p : Port)
  /-- READY_TO_LEAVE (R141). -/
  | readyToLeave (p : Port)
  /-- LEAVE_COMPLETE (R142). -/
  | leaveComplete (p : Port)
  /-- HOLD_MET (R24) of one hold. -/
  | holdMet (id : HoldId)
  /-- WINDOW_ENTRY_LEAVES (R39). -/
  | windowEntryLeaves
  /-- LEASE_WARNING (R10) of a bank. -/
  | leaseWarning (b : Bank)
  /-- LEASE_EXPIRY (R15) of a bank. -/
  | leaseExpiry (b : Bank)
  /-- GRACE_END (R79). -/
  | graceEnd
  /-- INTERVAL_TIMER_EXPIRY (R91). -/
  | intervalTimerExpiry
  /-- ENTRY_AGED (R56) of the entry of a port's queue that carries the tag. -/
  | entryAged (p : Port) (tag : Byte)
  /-- WRITE_BURST_START (R150). -/
  | writeBurstStart
  /-- READ_BURST_START (R33). -/
  | readBurstStart
  /-- WRITE_DATA_END (R150). -/
  | writeDataEnd
  /-- READ_DATA_ARRIVAL (R152) with the 64 bytes taken from the data bus. -/
  | readDataArrival (data : Block)
  /-- ROW_OPEN_ISSUED (R6). -/
  | rowOpenIssued
  /-- COL_READ_ISSUED (R29). -/
  | colReadIssued
  /-- COL_WRITE_ISSUED (R31). -/
  | colWriteIssued
  /-- ROW_CLOSE_ISSUED (R7). -/
  | rowCloseIssued
  /-- REVOCATION_CLOSE_ISSUED (R19). -/
  | revocationCloseIssued
  /-- REFRESH_ISSUED (R95). -/
  | refreshIssued
  /-- SHORT_CALIBRATION_ISSUED (R110). -/
  | shortCalibrationIssued
  /-- LONG_CALIBRATION_ISSUED (R107). -/
  | longCalibrationIssued
  /-- MODE_SET_ISSUED (R119). -/
  | modeSetIssued
  /-- POWER_DOWN_ENTRY_ISSUED (R125). -/
  | powerDownEntryIssued
  /-- POWER_DOWN_EXIT_ISSUED (R126). -/
  | powerDownExitIssued
  /-- SELF_REFRESH_ENTRY_ISSUED (R130). -/
  | selfRefreshEntryIssued
  /-- SELF_REFRESH_EXIT_ISSUED (R131). -/
  | selfRefreshExitIssued
  /-- LONG_CAL_BUSY_END (R107). -/
  | longCalBusyEnd
  /-- SHORT_CAL_BUSY_END (R110). -/
  | shortCalBusyEnd
  /-- LOCK_END (R112). -/
  | lockEnd
  /-- RESET_HOLD_END (R119). -/
  | resetHoldEnd
  /-- CLOCK_SETTLE_END (R119, R120). -/
  | clockSettleEnd
  /-- EXIT_WAIT_END (R120). -/
  | exitWaitEnd
  /-- MODE_LOAD_END (R120). -/
  | modeLoadEnd
  /-- IDLE_TIMER_EXPIRY (R124). -/
  | idleTimerExpiry
  /-- RESIDENCY_END (R126). -/
  | residencyEnd
  /-- WAKE_END (R131). -/
  | wakeEnd
  /-- START (R118). -/
  | start
  /-- STOP (R121, R122). -/
  | stop
  /-- COMMIT (R159). -/
  | commit
  /-- FAULT_POP (R167). -/
  | faultPop
  /-- SOFT_RESET (R170). -/
  | softReset
  /-- MGMT_ERROR_CLEAR (R171): the byte written to the control register. -/
  | mgmtErrorClear (value : Byte)
  /-- ALERT_MASK_WRITE (R168): the value written to the alert mask, 0020H in its low byte. -/
  | alertMaskWrite (value : BitVec 16)
  /-- STAGED_PROFILE_WRITE (R156): byte `byte` of the staged field of check number `field` + 1. -/
  | stagedProfileWrite (field : Fin 38) (byte : Fin 4) (value : Byte)
  /-- MGMT_WRITE_BAD (R171): a write of a byte at an address that takes none, or an unknown command code. -/
  | mgmtWriteBad (address : BitVec 16) (value : Byte)
  /-- REGISTER_CAPTURE (R176): a read of the byte at the address. -/
  | registerCapture (address : BitVec 16)
  /-- BAD_KIND_FRAME (R137, R173): a sound frame by its kind code and its length in bytes. -/
  | badKindFrame (p : Port) (h : Header) (kind : Byte) (length : Nat)
  deriving DecidableEq, Repr

end Sys2Proof
end

