-- ==== Sys2Proof/Machine/State.lean ====
section
/-! DEFINITION. The state of the Halcra 7204, block by block as Table 2-1 lists them, its two stop types and its state after
power-on reset. Everything is plain data. Every stored rank time is an instant (a count of ck), see `Sys2Proof.Word`. -/

namespace Sys2Proof.Machine

/-! ### Why a step can stop -/

/-- The manual describes no condition in which the block stops: every command of the table has an effect, or finds that its
happening does not take place and changes nothing (assumption 2). So there is no fault to raise. -/
inductive Fault where
  deriving DecidableEq, Repr

/-- Why a command is refused. -/
inductive Refusal where
  /-- Raised by `exec` alone, for a command that has no meaning yet; safe, since nothing is claimed of it. No arm raises it
  now. -/
  | notModelled (mnemonic : String)
  deriving DecidableEq, Repr

/-! ### Banks, leases and the drain (chapters 1 and 5) -/

/-- A session as a bank entry names it: a port and an epoch (Table 1-1). -/
structure Owner where
  port  : Port
  epoch : Byte
  deriving DecidableEq, Repr

/-- Why a lease was taken back (Table 1-1), in the order of Table 13-5. -/
inductive RevokeReason where
  | expired | drain | portLost | portLeft | stop
  deriving DecidableEq, Repr

/-- The fields of an OPEN bank (Table 1-1). -/
structure Lease where
  row        : Row
  owner      : Owner
  deadline   : Nat
  extensions : Nat
  warned     : Bool
  contended  : Bool
  deriving DecidableEq, Repr

/-- The fields of a REVOKING bank (Table 1-1). -/
structure Revocation where
  row       : Row
  owner     : Owner
  contended : Bool
  reason    : RevokeReason
  deriving DecidableEq, Repr

/-- The state of a bank with the fields present in it (R2). -/
inductive BankState where
  | closed
  | opened (l : Lease)
  | revoking (r : Revocation)
  deriving DecidableEq, Repr

/-- The session whose lease on the bank was last revoked, and its row (R20). -/
structure RevokedFrom where
  owner : Owner
  row   : Row
  deriving DecidableEq, Repr

/-- A bank entry (Table 1-1). -/
structure BankEntry where
  state       : BankState
  revokedFrom : Option RevokedFrom
  deriving DecidableEq, Repr

/-- The purposes a drain can have (Table 5-1). -/
inductive Purpose where
  | refresh | calibrate | sleep | stop
  deriving DecidableEq, Repr

/-- The purpose set (Table 5-1): which purposes it holds. -/
structure Purposes where
  refresh   : Bool
  calibrate : Bool
  sleep     : Bool
  stop      : Bool
  deriving DecidableEq, Repr

/-- The phase of the drain (R74), GRACE with its deadline. -/
inductive DrainPhase where
  | none
  | grace (deadline : Nat)
  | closing
  | service
  deriving DecidableEq, Repr

/-- The drain record (Table 5-1). -/
structure Drain where
  phase    : DrainPhase
  purposes : Purposes
  urgent   : Bool
  deriving DecidableEq, Repr

/-! ### Holds, the activation window and the data bus record (chapter 2) -/

/-- A hold: `none` is met, `some t` is pending until the instant `t` (R24). -/
abbrev Hold := Option Nat

/-- The 62 holds of Table 2-1. -/
structure Holds where
  bankOpen      : Table Hold 16
  bankColumn    : Table Hold 16
  bankClose     : Table Hold 16
  groupOpen     : Table Hold 4
  groupColumn   : Table Hold 4
  rankOpen      : Hold
  rankColumn    : Hold
  read          : Hold
  write         : Hold
  rankOperation : Hold
  command       : Hold
  deriving DecidableEq, Repr

/-- The direction of a burst (Table 2-2). -/
inductive Direction where
  | read | write
  deriving DecidableEq, Repr

/-- An entry of the data bus record (Table 2-2); its end is its start + 4. `started` is the model's own mark that the
burst-start happening has been taken. -/
structure Burst where
  direction : Direction
  port      : Port
  epoch     : Byte
  tag       : Byte
  start     : Nat
  started   : Bool
  deriving DecidableEq, Repr

/-- The Hold Unit: holds, the activation window list oldest first, the data bus record in order of start. -/
structure HoldUnit where
  holds  : Holds
  window : List Nat
  bursts : List Burst
  deriving DecidableEq, Repr

/-! ### Admission queues (chapter 3) -/

/-- The kind of a queue entry with the fields of Table 3-1 that its kind has. -/
inductive Request where
  | rowOpen (row : Row)
  | colRead (row : Row) (column : Column) (autoClose : Bool)
  | colWrite (row : Row) (column : Column) (autoClose : Bool) (slot : Fin 8)
  | rowClose
  deriving DecidableEq, Repr

/-- Why a front entry waits (Table 3-1). -/
inductive WaitReason where
  | contention | holds | drain | lock | returnFull | rankState
  deriving DecidableEq, Repr

/-- A queue entry (Table 3-1). -/
structure Entry where
  tag      : Byte
  bank     : Bank
  request  : Request
  accepted : Nat
  aged     : Bool
  waiting  : Option WaitReason
  deriving DecidableEq, Repr

/-- A port's Admission Queue, oldest entry first, and its outstanding-tag set (R42, R46). -/
structure PortQueue where
  entries     : List Entry
  outstanding : List Byte
  deriving DecidableEq, Repr

/-! ### The command slot arbiter and the rank's buses (chapter 4) -/

/-- The word a mode set carries (Table 4-1). -/
inductive ModeWord where
  | latency | write
  deriving DecidableEq, Repr

/-- A command on the rank's command/address bus with its content (Table 4-3). -/
inductive BusCommand where
  | rowOpen (b : Bank) (row : Row)
  | readColumn (b : Bank) (column : Column) (autoClose : Bool)
  | writeColumn (b : Bank) (column : Column) (autoClose : Bool)
  | close (b : Bank)
  | refresh
  | shortCalibration
  | longCalibration
  | modeSet (w : ModeWord) (value : Nat)
  | powerDownEntry
  | powerDownExit
  | selfRefreshEntry
  | selfRefreshExit
  deriving DecidableEq, Repr

/-- The last-grant record (R73): the class of the last grant, and the port for classes 3 and 4. -/
inductive LastGrant where
  | none
  | rankOperation
  | revocationClose
  | agedRequest (p : Port)
  | request (p : Port)
  deriving DecidableEq, Repr

/-- The arbiter's state (R62, R73) and the command its bus carries in the present ck. -/
structure Arbiter where
  pointer    : Port
  lastGrant  : LastGrant
  commandBus : Option BusCommand
  deriving DecidableEq, Repr

/-! ### The data mover (chapter 10) -/

/-- A write slot (Table 10-1). -/
inductive WriteSlot where
  | free
  | held (tag : Byte) (epoch : Byte) (data : Block)
  | issued (tag : Byte) (epoch : Byte) (data : Block)
  deriving DecidableEq, Repr

/-- A read-return space (Table 10-2). -/
inductive ReadSpace where
  | free
  | awaiting (tag : Byte) (epoch : Byte)
  | buffered (tag : Byte) (epoch : Byte) (data : Block)
  deriving DecidableEq, Repr

/-- A port's eight write slots and four read-return spaces (R147, R151). -/
structure MoverPort where
  slots  : Table WriteSlot 8
  spaces : Table ReadSpace 4
  deriving DecidableEq, Repr

/-- What the Data Mover does on the rank's data bus: nothing, drives the 64 bytes of a slot from the start of their burst on,
or receives (R33, R150). What a ck carries of them is `DataBus.beats`. -/
inductive DataBus where
  | quiet
  | driving (data : Block) (start : Nat)
  | receiving
  deriving DecidableEq, Repr

/-- The Data Mover. -/
structure DataMover where
  ports   : Table MoverPort 4
  dataBus : DataBus
  deriving DecidableEq, Repr

/-! ### Refresh and temperature (chapter 6) -/

/-- The thermal state (R102). -/
inductive Thermal where
  | normal | hot
  deriving DecidableEq, Repr

/-- The Refresh Unit: balance (R89), interval timer with its expiry time while RUNNING (R90), refresh count since
calibration (R99), thermal table (R100), recorded THOT level (R101) and thermal state (R102). -/
structure RefreshUnit where
  balance : Int
  timer   : Option Nat
  count   : Nat
  table   : Table (Option Int) 4
  thot    : Bool
  thermal : Thermal
  deriving DecidableEq, Repr

/-! ### Calibration and clock lock (chapter 7) -/

/-- Calibration busy (Table 7-1). -/
inductive CalBusy where
  | none
  | short (finish : Nat)
  | long (finish : Nat)
  deriving DecidableEq, Repr

/-- The Calibration and Lock Unit (Table 7-1); the lock window holds its end time while RUNNING. -/
structure CalibrationUnit where
  shortDue : Bool
  busy     : CalBusy
  lock     : Option Nat
  deriving DecidableEq, Repr

/-! ### The rank state controller (chapter 8) -/

/-- The two bring-up paths (section 8.2). -/
inductive BringUpPath where
  | full | retained
  deriving DecidableEq, Repr

/-- How far MODE_LOAD has gone: which mode set is offered next, or the phase end time of the retained path (R119, R120). -/
inductive ModeStage where
  | latencyNext
  | writeNext
  | settling (finish : Nat)
  deriving DecidableEq, Repr

/-- The bring-up phase with its phase end time where it is timed (Table 8-1). EXIT_WAIT has none until the exit is issued;
LONG_CAL records whether its one long calibration has been issued (R107). -/
inductive BringUpPhase where
  | resetHold (finish : Nat)
  | clockSettle (finish : Nat)
  | exitWait (finish : Option Nat)
  | modeLoad (stage : ModeStage)
  | longCal (issued : Bool)
  deriving DecidableEq, Repr

/-- The power-down record (Table 8-1); `passed` is the model's own mark that RESIDENCY_END has been taken
(DEDUCED, assumption 8). -/
structure PowerDown where
  residencyEnd : Nat
  passed       : Bool
  exitWanted   : Bool
  deriving DecidableEq, Repr

/-- The rank state with what is present in it (Table 8-1); WAKING with the instant of its wake end (R131). -/
inductive RankState where
  | offline
  | bringUp (path : BringUpPath) (phase : BringUpPhase)
  | active
  | powerDown (r : PowerDown)
  | sleep (wakeWanted : Bool)
  | waking (finish : Nat)
  | stopping
  deriving DecidableEq, Repr

/-- The idle timer (Table 8-1). -/
inductive IdleTimer where
  | stopped
  | running (expiry : Nat)
  | expired
  deriving DecidableEq, Repr

/-- A sleep vote (R127). -/
inductive Vote where
  | awake | voted
  deriving DecidableEq, Repr

/-- The command status of START and STOP (R132). -/
inductive CommandStatus where
  | ok | notOffline | noProfile | notRunning
  deriving DecidableEq, Repr

/-- The Rank State Controller (Table 8-1); a port without a current session has no vote. -/
structure RankController where
  state       : RankState
  retained    : Bool
  stopPending : Bool
  sleepBegun  : Bool
  idle        : IdleTimer
  votes       : Table (Option Vote) 4
  status      : CommandStatus
  deriving DecidableEq, Repr

/-! ### Port links (chapter 9) -/

/-- The session state of a port (R133), LEAVING with the tag of the LEAVE that began it, which its BYE answers (R138, R141,
assumption 25), whether the PORT_LEFT revocations have been asked for (R141 asks once per leave) and the leave report
(Table 9-1). -/
inductive Session where
  | down
  | linked
  | joined (epoch : Byte)
  | leaving (epoch : Byte) (tag : Byte) (asked : Bool) (report : Bool)
  deriving DecidableEq, Repr

/-- Refusal reasons (Table 13-5), in code order from 01H. -/
inductive RefusalReason where
  | noSession | staleSession | badKind | rankOffline | rankStopping | sessionClosing | addressRange | duplicateTag
  | queueFull | noWriteSlot | rowMismatch | notOwner | leaseLost
  deriving DecidableEq, Repr

/-- Denial reasons of EXTEND_DENIED (Table 13-5). -/
inductive DenialReason where
  | notOwner | contended | limit
  deriving DecidableEq, Repr

/-- The rank states by name, as RANK_STATE carries them (Table 13-5). -/
inductive RankStateName where
  | offline | bringUp | active | powerDown | sleep | waking | stopping
  deriving DecidableEq, Repr

/-- Replies, notices and data with the fields of Table 13-3. DATA also names the read-return space it empties (R153). -/
inductive Message where
  | issued
  | openHit
  | closeMoot
  | data (space : Fin 4) (bytes : Block)
  | written
  | refused (r : RefusalReason)
  | cancelled
  | welcome
  | joinRefused
  | bye
  | extended (b : Bank) (remaining : Nat) (allowed : Nat)
  | extendDenied (bank : Byte) (r : DenialReason)
  | cancelMiss (target : Byte)
  | voteNoted
  | wakeNoted
  | tempNoted (temperature : Int) (thermal : Thermal)
  | leaseWarning (b : Bank) (remaining : Nat)
  | contended (b : Bank) (remaining : Nat)
  | drain (remaining : Nat) (purposes : Purposes)
  | revoked (b : Bank) (r : RevokeReason)
  | rankState (n : RankStateName)
  | resync (expected : Byte)
  | thermal (t : Thermal)
  deriving DecidableEq, Repr

/-- A frame in an outbound queue: what is fixed at its creation (R174). -/
structure OutFrame where
  epoch   : Byte
  tag     : Byte
  message : Message
  deriving DecidableEq, Repr

/-- A Port Link Unit: session record (Table 9-1), outbound frame queue oldest first, and the bytes of the frame its link
took last. In DOWN the numbers and the flag are absent; they then stand at 0 and no. -/
structure PortLink where
  session   : Session
  expected  : Byte
  resync    : Bool
  outSeq    : Byte
  outbound  : List OutFrame
  lastFrame : Option (List Byte)
  deriving DecidableEq, Repr

/-! ### The profile store (chapter 11) -/

/-- A copy of the profile: field of check number c stands at index c - 1, 32 bits wide as its register is (Table 13-6). -/
abbrev Profile := Table (BitVec 32) 38

/-- The commit status (R156). -/
inductive CommitStatus where
  | none
  | commitOk
  | commitRejected (check : Nat)
  | notOffline
  deriving DecidableEq, Repr

/-- The Profile Store (R156). -/
structure ProfileStore where
  staged : Profile
  active : Profile
  valid  : Bool
  commit : CommitStatus
  deriving DecidableEq, Repr

/-- The defaults of Table 11-1, in check number order. -/
def defaultProfile : Profile :=
  #v[3, 10, 130, 10, 10, 25, 6, 4, 4, 30, 6, 4, 5, 5, 11, 190, 5500, 8, 2, 4, 200, 64, 512, 64, 5, 4, 400, 640, 143000,
    360, 12, 2000, 200, 400, 3, 1000, 65536, 85]

/-! ### Faults, counters and management (chapter 12) -/

/-- Fault kinds (Table 12-1), in code order from 01H. -/
inductive FaultKind where
  | portLost | portRejoin | leaseExpired | drainRevoke | refreshOverrun | thermalHot | thermalClear | frameError
  | listOverflow
  deriving DecidableEq, Repr

/-- Why the thermal state changed (R103). -/
inductive ThermalCause where
  | thot
  | report (p : Port)
  | sessionEnd (p : Port)
  deriving DecidableEq, Repr

/-- The detail of a fault record (Table 12-2). -/
inductive FaultDetail where
  | epoch (e : Byte)
  | extensions (n : Nat)
  | reason (r : RevokeReason)
  | missed (n : Counter)
  | cause (c : ThermalCause)
  | crc
  | sequence
  | dropped (n : Nat)
  deriving DecidableEq, Repr

/-- A fault record (Table 12-1), its rank time the 48-bit value at its writing (R1, R165). -/
structure FaultRecord where
  kind   : FaultKind
  port   : Option Port
  bank   : Option Bank
  detail : FaultDetail
  time   : BitVec 48
  deriving DecidableEq, Repr

/-- The counters of one port (Table 12-3). -/
structure PortCounters where
  accepted    : Counter
  refused     : Counter
  revocations : Counter
  discarded   : Counter
  deriving DecidableEq, Repr

/-- The counters of the rank (Table 12-3). -/
structure RankCounters where
  refreshes   : Counter
  pullIns     : Counter
  urgents     : Counter
  missed      : Counter
  revocations : Counter
  deriving DecidableEq, Repr

/-- The fault command status (R167). -/
inductive PopStatus where
  | ok | listEmpty
  deriving DecidableEq, Repr

/-- The Fault Unit: fault list oldest first, overflow flag and count, alert mask, counters, fault command status,
MGMT_ERROR, and the ALERT line (true is asserted). -/
structure FaultUnit where
  list          : List FaultRecord
  overflow      : Bool
  overflowCount : Nat
  mask          : BitVec 9
  ports         : Table PortCounters 4
  rank          : RankCounters
  popStatus     : PopStatus
  mgmtError     : Bool
  alert         : Bool
  deriving DecidableEq, Repr

/-- The bytes captured by a read of the lowest byte of a multi-byte register (R176). -/
structure Capture where
  base  : Nat
  bytes : List Byte
  deriving DecidableEq, Repr

/-! ### The whole block -/

/-- The state of the Halcra 7204. `freeIndex` is the model's own counter behind free values (assumption 4); `pending` is the
queue of commands not yet taken. -/
structure State where
  time         : Nat
  links        : Table PortLink 4
  epochCounter : Byte
  queues       : Table PortQueue 4
  banks        : Table BankEntry 16
  drain        : Drain
  holds        : HoldUnit
  arbiter      : Arbiter
  mover        : DataMover
  refresh      : RefreshUnit
  calibration  : CalibrationUnit
  rank         : RankController
  profile      : ProfileStore
  fault        : FaultUnit
  capture      : Option Capture
  freeIndex    : Nat
  pending      : List Instr
  deriving DecidableEq, Repr

/-! ### The values after reset, block by block -/

/-- A CLOSED bank with no revoked-from record (R3). -/
def BankEntry.reset : BankEntry := ⟨.closed, none⟩

/-- The empty purpose set. -/
def Purposes.empty : Purposes := ⟨false, false, false, false⟩

/-- No drain (R3, R74). -/
def Drain.idle : Drain := ⟨.none, .empty, false⟩

/-- Every hold met (R25). -/
def Holds.allMet : Holds :=
  ⟨Table.fill 16 none, Table.fill 16 none, Table.fill 16 none, Table.fill 4 none, Table.fill 4 none, none, none, none, none,
    none, none⟩

/-- Every hold met, no window entry, no burst (R25). -/
def HoldUnit.reset : HoldUnit := ⟨.allMet, [], []⟩

/-- An empty queue and an empty outstanding-tag set (R43). -/
def PortQueue.reset : PortQueue := ⟨[], []⟩

/-- The pointer at MP0 and no last grant (R62, R73); the bus idle. -/
def Arbiter.reset : Arbiter := ⟨0, .none, none⟩

/-- Every slot and every space FREE (R147, R151). -/
def MoverPort.reset : MoverPort := ⟨Table.fill 8 .free, Table.fill 4 .free⟩

/-- The Data Mover after reset. -/
def DataMover.reset : DataMover := ⟨Table.fill 4 .reset, .quiet⟩

/-- Balance 0, timer STOPPED, count 0, table absent, THOT deasserted, NORMAL (R90, R99, R101). -/
def RefreshUnit.reset : RefreshUnit := ⟨0, none, 0, Table.fill 4 none, false, .normal⟩

/-- Nothing due, busy or locked (R106). -/
def CalibrationUnit.reset : CalibrationUnit := ⟨false, .none, none⟩

/-- OFFLINE with everything clear (R115); the command status OK (R132). -/
def RankController.reset : RankController := ⟨.offline, false, false, false, .stopped, Table.fill 4 none, .ok⟩

/-- A port after reset: LINKED with its lane up, DOWN with its lane down (R133). -/
def PortLink.reset (laneUp : Bool) : PortLink := ⟨if laneUp then .linked else .down, 0, false, 0, [], none⟩

/-- Defaults staged, the active copy invalid, commit status NONE (R157). The invalid active copy holds the defaults, which
is what it reads as (R164) and what a block uses of it (R157). -/
def ProfileStore.reset : ProfileStore := ⟨defaultProfile, defaultProfile, false, .none⟩

/-- Every counter of a port 0 (R169). -/
def PortCounters.zero : PortCounters := ⟨0, 0, 0, 0⟩

/-- Every counter of the rank 0 (R169). -/
def RankCounters.zero : RankCounters := ⟨0, 0, 0, 0, 0⟩

/-- Empty list, no overflow, all nine kinds enabled, counters 0, statuses clear, ALERT released (R165 to R171). -/
def FaultUnit.reset : FaultUnit := ⟨[], false, 0, 0x1FF, Table.fill 4 .zero, .zero, .ok, false, false⟩

/-- The state right after power-on reset with every lane down and THOT deasserted (R115 and the reset rule of every block).
The lane status and THOT are inputs; `powerOnReset` takes them as they stand at the release (assumption 3). -/
def State.reset : State where
  time         := 0
  links        := Table.fill 4 (.reset false)
  epochCounter := 0
  queues       := Table.fill 4 .reset
  banks        := Table.fill 16 .reset
  drain        := .idle
  holds        := .reset
  arbiter      := .reset
  mover        := .reset
  refresh      := .reset
  calibration  := .reset
  rank         := .reset
  profile      := .reset
  fault        := .reset
  capture      := none
  freeIndex    := 0
  pending      := []

end Sys2Proof.Machine
end

