-- ==== Sys2Proof/Machine/Profile.lean ====
section
/-! DEFINITION. The profile fields by name, the clock classes, and the validation of a staged copy (chapter 11). -/

namespace Sys2Proof.Machine

/-- The field of check number c, as a number (Table 11-1; profile values are unsigned, section 13.4 note 2). -/
def Profile.field (p : Profile) (i : Fin 38) : Nat := (Table.look p i).toNat

/-- Clock class code, 1 to 4 for K1 to K4. -/
def Profile.clockClass (p : Profile) : Nat := Profile.field p 0
/-- RD. -/
def Profile.readDelay (p : Profile) : Nat := Profile.field p 1
/-- Access floor in tenths of a nanosecond. -/
def Profile.accessFloor (p : Profile) : Nat := Profile.field p 2
/-- Field 4 of Table 11-1. -/
def Profile.tOC (p : Profile) : Nat := Profile.field p 3
/-- Field 5 of Table 11-1. -/
def Profile.tCP (p : Profile) : Nat := Profile.field p 4
/-- Field 6 of Table 11-1. -/
def Profile.tOM (p : Profile) : Nat := Profile.field p 5
/-- Field 7 of Table 11-1. -/
def Profile.tOSG (p : Profile) : Nat := Profile.field p 6
/-- Field 8 of Table 11-1. -/
def Profile.tOSO (p : Profile) : Nat := Profile.field p 7
/-- Field 9 of Table 11-1. -/
def Profile.nW (p : Profile) : Nat := Profile.field p 8
/-- Field 10 of Table 11-1. -/
def Profile.tWS (p : Profile) : Nat := Profile.field p 9
/-- Field 11 of Table 11-1. -/
def Profile.tCSG (p : Profile) : Nat := Profile.field p 10
/-- Field 12 of Table 11-1. -/
def Profile.tCSO (p : Profile) : Nat := Profile.field p 11
/-- Field 13 of Table 11-1. -/
def Profile.tWRD (p : Profile) : Nat := Profile.field p 12
/-- Field 14 of Table 11-1. -/
def Profile.tRTC (p : Profile) : Nat := Profile.field p 13
/-- Field 15 of Table 11-1. -/
def Profile.tWRC (p : Profile) : Nat := Profile.field p 14
/-- Field 16 of Table 11-1. -/
def Profile.tRFB (p : Profile) : Nat := Profile.field p 15
/-- Field 17 of Table 11-1. -/
def Profile.tRFI (p : Profile) : Nat := Profile.field p 16
/-- Field 18 of Table 11-1. -/
def Profile.ppm (p : Profile) : Nat := Profile.field p 17
/-- Field 19 of Table 11-1. -/
def Profile.pim (p : Profile) : Nat := Profile.field p 18
/-- Field 20 of Table 11-1. -/
def Profile.lt (p : Profile) : Nat := Profile.field p 19
/-- Field 21 of Table 11-1. -/
def Profile.tGR (p : Profile) : Nat := Profile.field p 20
/-- Field 22 of Table 11-1. -/
def Profile.tCS (p : Profile) : Nat := Profile.field p 21
/-- Field 23 of Table 11-1. -/
def Profile.tCL (p : Profile) : Nat := Profile.field p 22
/-- Field 24 of Table 11-1. -/
def Profile.cpr (p : Profile) : Nat := Profile.field p 23
/-- Field 25 of Table 11-1. -/
def Profile.tPDX (p : Profile) : Nat := Profile.field p 24
/-- Field 26 of Table 11-1. -/
def Profile.tPDM (p : Profile) : Nat := Profile.field p 25
/-- Field 27 of Table 11-1. -/
def Profile.tIDLE (p : Profile) : Nat := Profile.field p 26
/-- Field 28 of Table 11-1. -/
def Profile.tLOCK (p : Profile) : Nat := Profile.field p 27
/-- Field 29 of Table 11-1. -/
def Profile.tRST (p : Profile) : Nat := Profile.field p 28
/-- Field 30 of Table 11-1. -/
def Profile.tSET (p : Profile) : Nat := Profile.field p 29
/-- Field 31 of Table 11-1. -/
def Profile.tMS (p : Profile) : Nat := Profile.field p 30
/-- Field 32 of Table 11-1. -/
def Profile.tLEASE (p : Profile) : Nat := Profile.field p 31
/-- Field 33 of Table 11-1. -/
def Profile.tWARN (p : Profile) : Nat := Profile.field p 32
/-- Field 34 of Table 11-1. -/
def Profile.tCONT (p : Profile) : Nat := Profile.field p 33
/-- Field 35 of Table 11-1. -/
def Profile.maxExtensions (p : Profile) : Nat := Profile.field p 34
/-- Field 36 of Table 11-1. -/
def Profile.tAGE (p : Profile) : Nat := Profile.field p 35
/-- Field 37 of Table 11-1. -/
def Profile.rowCount (p : Profile) : Nat := Profile.field p 36
/-- TH in °C. -/
def Profile.threshold (p : Profile) : Nat := Profile.field p 37

/-- tSRX is tRFB + 8 (Table 11-1 note 2). -/
def Profile.tSRX (p : Profile) : Nat := p.tRFB + 8

/-- WD, fixed by the clock class (R158). For a number that is no class the manual states none: a free value. -/
def Profile.writeDelay (p : Profile) : Nat :=
  match p.clockClass with
  | 1 => 5
  | 2 => 6
  | 3 => 7
  | 4 => 8
  | c => Config.writeDelayOfNoClass c

/-- The ck period in tenths of a nanosecond (R161 note 1). Check 1 has accepted the class wherever it is read. -/
def Profile.period (p : Profile) : Nat :=
  match p.clockClass with
  | 1 => 24
  | 2 => 18
  | 3 => 14
  | _ => 11

/-- The legal RD of a clock class (Table 11-2). -/
def Profile.legalReadDelay (p : Profile) : Bool :=
  match p.clockClass with
  | 1 => 6 ≤ p.readDelay && p.readDelay ≤ 8
  | 2 => 7 ≤ p.readDelay && p.readDelay ≤ 10
  | 3 => 9 ≤ p.readDelay && p.readDelay ≤ 12
  | 4 => 11 ≤ p.readDelay && p.readDelay ≤ 14
  | _ => false


/-- Whether a number lies between two bounds, inclusive. -/
def within (lo hi n : Nat) : Bool := decide (lo ≤ n) && decide (n ≤ hi)

/-- Checks 1 to 38 of Table 11-1, in number order (R160). -/
def Profile.rangeChecks (p : Profile) : List Bool :=
  [within 1 4 p.clockClass, p.legalReadDelay, within 100 200 p.accessFloor, within 4 40 p.tOC, within 4 40 p.tCP,
    within 10 80 p.tOM, within 2 16 p.tOSG, within 2 16 p.tOSO, within 2 8 p.nW, within 8 128 p.tWS,
    within 4 12 p.tCSG, within 4 12 p.tCSO, within 2 16 p.tWRD, within 2 16 p.tRTC, within 4 32 p.tWRC,
    within 40 800 p.tRFB, within 1000 20000 p.tRFI, within 1 8 p.ppm, within 0 8 p.pim, within 1 8 p.lt,
    within 0 4096 p.tGR, within 32 128 p.tCS, within 256 1024 p.tCL, within 16 256 p.cpr, within 2 16 p.tPDX,
    within 3 16 p.tPDM, p.tIDLE == 0 || within 16 65535 p.tIDLE, within 256 1024 p.tLOCK, within 1000 200000 p.tRST,
    within 16 4096 p.tSET, within 4 32 p.tMS, within 64 65535 p.tLEASE, within 0 (p.tLEASE / 2) p.tWARN,
    within 16 65535 p.tCONT, within 0 15 p.maxExtensions, within 32 65535 p.tAGE,
    p.rowCount == 16384 || p.rowCount == 32768 || p.rowCount == 65536 || p.rowCount == 131072,
    within 60 105 p.threshold]

/-- The relation checks 39 to 47 of Table 11-3, in number order (R161). -/
def Profile.relationChecks (p : Profile) : List Bool :=
  [decide (p.accessFloor ≤ p.readDelay * p.period), decide (p.readDelay * p.period ≤ 200), decide (p.tOSO ≤ p.tOSG),
    decide (p.tCSO ≤ p.tCSG), decide (p.tOC ≤ p.tOM), decide (p.tOSO * (p.nW - 1) ≤ p.tWS), decide (p.tGR < p.tRFI / 2),
    decide (p.tCONT ≤ p.tLEASE), decide (p.lt ≤ p.ppm)]

/-- All 47 checks in the order of their numbers (R160, R161). -/
def Profile.checks (p : Profile) : List Bool := p.rangeChecks ++ p.relationChecks

/-- The number of the first check that fails, `none` when all pass (R160). -/
def Profile.firstFailure (p : Profile) : Option Nat :=
  (p.checks.findIdx? fun ok => !ok).map (· + 1)

end Sys2Proof.Machine
end

