-- ==== Sys2Proof/Machine/Flags.lean ====
section
/-! DEFINITION. What the blocks answer of the state as it stands, changing nothing: sessions, banks, holds, room, the drain,
readiness, idleness, unanimity, ALERT. -/

namespace Sys2Proof.Machine

/-- The active profile (R156); the defaults while it is invalid (R157). -/
def State.prof (s : State) : Profile := s.profile.active

/-- Rank time as its 48-bit value (R1). -/
def State.time48 (s : State) : BitVec 48 := BitVec.ofNat 48 s.time

/-- Rank time has reached a stored instant (section 4.2). -/
def State.reached (s : State) (t : Nat) : Bool := decide (t ≤ s.time)

/-! ### Sessions (R133) -/

/-- The epoch of a session that is current, JOINED or LEAVING. -/
def Session.epoch? : Session → Option Byte
  | .down => none
  | .linked => none
  | .joined e => some e
  | .leaving e _ _ _ => some e

/-- Whether the lane is up: every state but DOWN (R133). -/
def Session.laneUp : Session → Bool
  | .down => false
  | .linked => true
  | .joined _ => true
  | .leaving _ _ _ _ => true

/-- Whether a session is LEAVING. -/
def Session.isLeaving : Session → Bool
  | .down => false
  | .linked => false
  | .joined _ => false
  | .leaving _ _ _ _ => true

/-- The epoch of the port's current session. -/
def State.epoch? (s : State) (p : Port) : Option Byte := (s.links.look p).session.epoch?

/-- The epoch a frame created now for the port carries: the current session's, or 0 (R172, R174). -/
def State.frameEpoch (s : State) (p : Port) : Byte := (s.epoch? p).getD 0

/-- Whether the port has a current session. -/
def State.current (s : State) (p : Port) : Bool := (s.epoch? p).isSome

/-- Whether the port's current session has this epoch. -/
def State.isCurrent (s : State) (p : Port) (e : Byte) : Bool := s.epoch? p == some e

/-! ### The rank state by name (R116) -/

/-- The name of a rank state, as RANK_STATE and the rank status view give it. -/
def RankState.name : RankState → RankStateName
  | .offline => .offline
  | .bringUp _ _ => .bringUp
  | .active => .active
  | .powerDown _ => .powerDown
  | .sleep _ => .sleep
  | .waking _ => .waking
  | .stopping => .stopping

/-! ### Banks (R4) -/

/-- Whether a bank is CLOSED. -/
def BankState.isClosed : BankState → Bool
  | .closed => true
  | .opened _ => false
  | .revoking _ => false

/-- Whether a bank is OPEN. -/
def BankState.isOpen : BankState → Bool
  | .closed => false
  | .opened _ => true
  | .revoking _ => false

/-- The owner of an OPEN or REVOKING bank (R2). -/
def BankState.owner? : BankState → Option Owner
  | .closed => none
  | .opened l => some l.owner
  | .revoking r => some r.owner

/-- "Are all banks CLOSED" (R4). -/
def State.allClosed (s : State) : Bool := s.banks.all fun b => b.state.isClosed

/-- Whether a session owns the bank (R4). -/
def State.owns (s : State) (o : Owner) (b : Bank) : Bool := (s.banks.look b).state.owner? == some o

/-- Whether a session owns some bank (R86). -/
def State.ownsAny (s : State) (o : Owner) : Bool := allBanks.any (s.owns o)

/-- Whether the port's current session owns an OPEN bank (R76). -/
def State.ownsOpen (s : State) (p : Port) : Bool :=
  match s.epoch? p with
  | none => false
  | some e => allBanks.any fun b => (s.banks.look b).state.isOpen && s.owns ⟨p, e⟩ b

/-! ### The drain (R74, R81) -/

/-- A drain is active while its phase is other than NONE (Table 5-1 note 1). -/
def DrainPhase.isActive : DrainPhase → Bool
  | .none => false
  | .grace _ => true
  | .closing => true
  | .service => true

/-- Whether a purpose is in the set. -/
def Purposes.has (u : Purposes) : Purpose → Bool
  | .refresh => u.refresh
  | .calibrate => u.calibrate
  | .sleep => u.sleep
  | .stop => u.stop

/-- The set with a purpose added. -/
def Purposes.add (u : Purposes) : Purpose → Purposes
  | .refresh => { u with refresh := true }
  | .calibrate => { u with calibrate := true }
  | .sleep => { u with sleep := true }
  | .stop => { u with stop := true }

/-- The set with a purpose removed. -/
def Purposes.drop (u : Purposes) : Purpose → Purposes
  | .refresh => { u with refresh := false }
  | .calibrate => { u with calibrate := false }
  | .sleep => { u with sleep := false }
  | .stop => { u with stop := false }

/-- Whether the set is empty. -/
def Purposes.isEmpty (u : Purposes) : Bool := !(u.refresh || u.calibrate || u.sleep || u.stop)

/-- What is at turn in service (R81): SLEEP and STOP together come last. -/
inductive Turn where
  | refresh | calibrate | selfRefresh
  deriving DecidableEq, Repr

/-- The purpose at turn in a drain in SERVICE (R81). -/
def Drain.turn (d : Drain) : Option Turn :=
  match d.phase with
  | .none => none
  | .grace _ => none
  | .closing => none
  | .service =>
    if d.purposes.refresh then some .refresh
    else if d.purposes.calibrate then some .calibrate
    else if d.purposes.sleep || d.purposes.stop then some .selfRefresh
    else none

/-! ### Holds and the activation window (R24, R37, R40) -/

/-- A hold judged at a rank time: met, or pending for an instant that has been reached (R24). -/
def Hold.metAt (now : Nat) : Hold → Bool
  | none => true
  | some t => decide (t ≤ now)

/-- The hold of a name. -/
def Holds.hold (h : Holds) : HoldId → Hold
  | .bankOpen b => h.bankOpen.look b
  | .bankColumn b => h.bankColumn.look b
  | .bankClose b => h.bankClose.look b
  | .groupOpen g => h.groupOpen.look g
  | .groupColumn g => h.groupColumn.look g
  | .rankOpen => h.rankOpen
  | .rankColumn => h.rankColumn
  | .read => h.read
  | .write => h.write
  | .rankOperation => h.rankOperation
  | .command => h.command

/-- Whether a hold is met now. -/
def State.met (s : State) (id : HoldId) : Bool := Hold.metAt s.time (s.holds.holds.hold id)

/-- The window entries whose span has not run out at the rank time of the question (R40), tWS being that of the profile active now,
also for an entry recorded before a COMMIT (R163; assumption 26). -/
def State.windowCount (s : State) : Nat := s.holds.window.countP fun t => decide (s.time < t + s.prof.tWS)

/-- Whether a row-open has room (R40), nW being that of the profile active now (assumption 26). -/
def State.hasRoom (s : State) : Bool := decide (s.windowCount < s.prof.nW)

/-- The end of a burst: start + 4 (Table 2-2). -/
def Burst.finish (b : Burst) : Nat := b.start + 4

/-- The bursts whose end has not been reached (R41). -/
def State.burstCount (s : State) : Nat := s.holds.bursts.countP fun b => decide (s.time < b.finish)

/-- The holds of a row-open, with room in the window (Table 2-4). -/
def State.openHoldsMet (s : State) (b : Bank) : Bool :=
  s.met (.bankOpen b) && s.met (.groupOpen (groupOf b)) && s.met .rankOpen && s.met .command && s.hasRoom

/-- The holds of a read column (Table 2-4). -/
def State.readHoldsMet (s : State) (b : Bank) : Bool :=
  s.met (.bankColumn b) && s.met (.groupColumn (groupOf b)) && s.met .rankColumn && s.met .read && s.met .command

/-- The holds of a write column (Table 2-4). -/
def State.writeHoldsMet (s : State) (b : Bank) : Bool :=
  s.met (.bankColumn b) && s.met (.groupColumn (groupOf b)) && s.met .rankColumn && s.met .write && s.met .command

/-- The holds of a close, owner's or revocation (Table 2-4). -/
def State.closeHoldsMet (s : State) (b : Bank) : Bool := s.met (.bankClose b) && s.met .command

/-- The holds of a rank operation other than an exit, with the data bus record empty (Table 2-4), each judged at the rank time of
the question (R37): a burst whose end has been reached does not count, whether or not its end has yet been taken. -/
def State.operationHoldsMet (s : State) : Bool :=
  s.met .rankOperation && s.met .command && allBanks.all (fun b => s.met (.bankOpen b)) && s.burstCount == 0

/-! ### The data mover (R147, R151) -/

/-- Whether a write slot is in use, HELD or ISSUED. -/
def WriteSlot.inUse : WriteSlot → Bool
  | .free => false
  | .held _ _ _ => true
  | .issued _ _ _ => true

/-- Whether a write slot is HELD. -/
def WriteSlot.isHeld : WriteSlot → Bool
  | .free => false
  | .held _ _ _ => true
  | .issued _ _ _ => false

/-- Whether a write slot is ISSUED. -/
def WriteSlot.isIssued : WriteSlot → Bool
  | .free => false
  | .held _ _ _ => false
  | .issued _ _ _ => true

/-- Whether a read-return space is in use, AWAITING or BUFFERED. -/
def ReadSpace.inUse : ReadSpace → Bool
  | .free => false
  | .awaiting _ _ => true
  | .buffered _ _ _ => true

/-- Whether a read-return space is AWAITING. -/
def ReadSpace.isAwaiting : ReadSpace → Bool
  | .free => false
  | .awaiting _ _ => true
  | .buffered _ _ _ => false

/-- Whether a read-return space is BUFFERED. -/
def ReadSpace.isBuffered : ReadSpace → Bool
  | .free => false
  | .awaiting _ _ => false
  | .buffered _ _ _ => true

/-- The lowest-numbered FREE write slot of the port (R148). -/
def State.freeSlot (s : State) (p : Port) : Option (Fin 8) :=
  allSlots.find? fun i => !((s.mover.ports.look p).slots.look i).inUse

/-- A FREE read-return space of the port (R151): the lowest-numbered one, where R151 says one (assumption 27). -/
def State.freeSpace (s : State) (p : Port) : Option (Fin 4) :=
  allSpaces.find? fun i => !((s.mover.ports.look p).spaces.look i).inUse

/-- How many read-return spaces of the port are in use (R151). -/
def State.spacesInUse (s : State) (p : Port) : Nat := (s.mover.ports.look p).spaces.count ReadSpace.inUse

/-- How many write slots of the port are in use (R147). -/
def State.slotsInUse (s : State) (p : Port) : Nat := (s.mover.ports.look p).slots.count WriteSlot.inUse

/-! ### Calibration and lock (R111, R113) -/

/-- A calibration is in its busy time, judged at the rank time of the question (R111). -/
def State.calibrationBusy (s : State) : Bool :=
  match s.calibration.busy with
  | .none => false
  | .short t => decide (s.time < t)
  | .long t => decide (s.time < t)

/-- The lock window has ended, judged at the rank time of the question (R113). -/
def State.lockEnded (s : State) : Bool :=
  match s.calibration.lock with
  | none => true
  | some t => decide (t ≤ s.time)

/-! ### Front-entry evaluation (R47 to R51) -/

/-- How a front entry is answered without issue (R52). -/
inductive Answer where
  | openHit | closeMoot | refused (r : RefusalReason)
  deriving DecidableEq, Repr

/-- The outcome of front-entry evaluation (R48); a wait says whether contention is to be set (R49). -/
inductive Outcome where
  | candidate
  | wait (contend : Bool)
  | answer (a : Answer)
  deriving DecidableEq, Repr

/-- The front entry of a port's queue for a bank (R47). -/
def State.front (s : State) (p : Port) (b : Bank) : Option Entry :=
  (s.queues.look p).entries.find? fun e => e.bank == b

/-- R49: a ROW_OPEN for a row, of session `o`. -/
def evalRowOpen (o : Owner) (row : Row) : BankState → Outcome
  | .closed => .candidate
  | .opened l =>
    if l.owner = o then (if l.row = row then .answer .openHit else .answer (.refused .rowMismatch)) else .wait true
  | .revoking r => .wait (decide (r.owner ≠ o))

/-- Whether a column request finds its lease lost or never held: the revoked-from record names the session and the row
(R21). -/
def lostOrNotOwner (o : Owner) (row : Row) (rf : Option RevokedFrom) : Outcome :=
  if rf = some ⟨o, row⟩ then .answer (.refused .leaseLost) else .answer (.refused .notOwner)

/-- R50: a column request with a row guard, of session `o`. -/
def evalColumn (o : Owner) (row : Row) (b : BankEntry) : Outcome :=
  match b.state with
  | .closed => lostOrNotOwner o row b.revokedFrom
  | .opened l =>
    if l.owner = o then (if l.row = row then .candidate else .answer (.refused .rowMismatch))
    else lostOrNotOwner o row b.revokedFrom
  | .revoking r => if r.owner = o then .answer (.refused .leaseLost) else lostOrNotOwner o row b.revokedFrom

/-- R51: a ROW_CLOSE of session `o`. -/
def evalRowClose (o : Owner) : BankState → Outcome
  | .closed => .answer .closeMoot
  | .opened l => if l.owner = o then .candidate else .answer .closeMoot
  | .revoking _ => .answer .closeMoot

/-- Evaluation of an entry of session `o` against a bank entry (R48). -/
def evaluate (o : Owner) (r : Request) (b : BankEntry) : Outcome :=
  match r with
  | .rowOpen row => evalRowOpen o row b.state
  | .colRead row _ _ => evalColumn o row b
  | .colWrite row _ _ _ => evalColumn o row b
  | .rowClose => evalRowClose o b.state

/-- The outcome of an entry of the port's queue against its bank as it stands. -/
def State.outcome (s : State) (p : Port) (e : Entry) : Outcome :=
  evaluate ⟨p, s.frameEpoch p⟩ e.request (s.banks.look e.bank)

/-! ### Readiness (R53, R54) -/

/-- The holds condition of Table 3-3, by kind. -/
def State.requestHoldsMet (s : State) (e : Entry) : Bool :=
  match e.request with
  | .rowOpen _ => s.openHoldsMet e.bank
  | .colRead _ _ _ => s.readHoldsMet e.bank
  | .colWrite _ _ _ _ => s.writeHoldsMet e.bank
  | .rowClose => s.closeHoldsMet e.bank

/-- The reason of the first condition of Table 3-3 that does not hold for a candidate; `none` when it is ready. -/
def State.unmet (s : State) (p : Port) (e : Entry) : Option WaitReason :=
  if s.rank.state ≠ .active then some .rankState
  else
    match e.request with
    | .rowOpen _ =>
      if s.drain.phase.isActive then some .drain
      else if s.calibrationBusy then some .holds
      else if s.requestHoldsMet e then none else some .holds
    | .colRead _ _ _ =>
      if !s.lockEnded then some .lock
      else if 4 ≤ s.spacesInUse p then some .returnFull
      else if s.requestHoldsMet e then none else some .holds
    | .colWrite _ _ _ _ => if s.requestHoldsMet e then none else some .holds
    | .rowClose => if s.requestHoldsMet e then none else some .holds

/-- Whether an entry is the front entry for its bank (R47). -/
def State.isFront (s : State) (p : Port) (e : Entry) : Bool := s.front p e.bank == some e

/-- Whether an entry is a ready candidate (R53). -/
def State.isReady (s : State) (p : Port) (e : Entry) : Bool :=
  s.isFront p e && s.outcome p e == .candidate && (s.unmet p e).isNone

/-- The waiting-reason of an entry (R54); one that evaluation would answer keeps what it has. -/
def State.waitingOf (s : State) (p : Port) (e : Entry) : Option WaitReason :=
  if s.isFront p e then
    match s.outcome p e with
    | .candidate => s.unmet p e
    | .wait _ => some .contention
    | .answer _ => e.waiting
  else none

/-! ### Idleness and unanimity (R97, R124, R128) -/

/-- The Admission Queues of all four ports are empty. -/
def State.queuesEmpty (s : State) : Bool := s.queues.all fun q => q.entries.isEmpty

/-- The rank is idle (R97). -/
def State.rankIdle (s : State) : Bool :=
  decide (s.rank.state = .active) && s.allClosed && !s.drain.phase.isActive && s.queuesEmpty &&
    s.mover.ports.all (fun m => !m.spaces.any ReadSpace.inUse) &&
    s.mover.ports.all (fun m => !m.slots.any WriteSlot.isIssued)

/-- A pull-in is possible: the balance is greater than −PIM (R97). -/
def State.pullInPossible (s : State) : Bool := decide (-(s.prof.pim : Int) < s.refresh.balance)

/-- All the conditions under which the idle timer runs (R124). -/
def State.idleTimerHolds (s : State) : Bool :=
  s.rankIdle && !s.pullInPossible && decide (0 < s.prof.tIDLE) && !s.rank.stopPending

/-- Unanimity (R128). -/
def State.unanimous (s : State) : Bool :=
  s.rank.votes.any Option.isSome && s.rank.votes.all (fun v => v != some .awake) && s.queuesEmpty &&
    (s.rank.state.name == .active || s.rank.state.name == .powerDown) &&
    decide (s.refresh.thermal = .normal) && !s.rank.stopPending

/-- Some current session's vote is VOTED (R126). -/
def State.someVoted (s : State) : Bool := s.rank.votes.any fun v => v == some .voted

/-! ### Leaving (R141) -/

/-- The conditions of ready to leave: empty queue, no read-return space and no write slot of the port in use (R141,
R154). -/
def State.nothingInHand (s : State) (p : Port) : Bool :=
  (s.queues.look p).entries.isEmpty && s.spacesInUse p == 0 && s.slotsInUse p == 0

/-! ### ALERT (R168) -/

/-- The position of a fault kind's enable in the alert mask: its code less 1 (Table 13-6). -/
def FaultKind.bit : FaultKind → Nat
  | .portLost => 0
  | .portRejoin => 1
  | .leaseExpired => 2
  | .drainRevoke => 3
  | .refreshOverrun => 4
  | .thermalHot => 5
  | .thermalClear => 6
  | .frameError => 7
  | .listOverflow => 8

/-- The list holds a record whose kind is enabled (R168). -/
def FaultUnit.alertDue (f : FaultUnit) : Bool := f.list.any fun r => f.mask.getLsbD r.kind.bit

end Sys2Proof.Machine
end

