-- ==== Sys2Proof/Machine/Frames.lean ====
section
/-! DEFINITION. Link frames as bytes: the frame check, the code values, the bodies of outbound frames and the frame built at
the handing to the link (R172, R174, Tables 13-1 to 13-5). -/

namespace Sys2Proof.Machine

/-! ### Byte order and the frame check -/

/-- A two-byte field, most significant byte first (R172). -/
def bytes16 (v : BitVec 16) : List Byte := [v.extractLsb' 8 8, v.extractLsb' 0 8]

/-- A three-byte field, most significant byte first (R172). -/
def bytes24 (v : BitVec 24) : List Byte := [v.extractLsb' 16 8, v.extractLsb' 8 8, v.extractLsb' 0 8]

/-- One bit step of the frame check: polynomial x^16 + x^12 + x^5 + 1 (R172). -/
def crcShift (c : BitVec 16) : BitVec 16 := if c.msb then (c <<< 1) ^^^ 0x1021#16 else c <<< 1

/-- One byte into the frame check, most significant bit first (R172). -/
def crcByte (c : BitVec 16) (b : Byte) : BitVec 16 :=
  let c := c ^^^ (b.zeroExtend 16 <<< 8)
  crcShift (crcShift (crcShift (crcShift (crcShift (crcShift (crcShift (crcShift c)))))))

/-- The frame check over bytes: initial value FFFFH, no final inversion (R172). -/
def crc16 (bytes : List Byte) : BitVec 16 := bytes.foldl crcByte 0xFFFF#16

/-- Whether a frame is whole: at least 6 bytes, and its last two are the check over the others, high byte first (R135, R172,
R173). -/
def frameSound (bytes : List Byte) : Bool :=
  decide (6 ≤ bytes.length) &&
    bytes.drop (bytes.length - 2) == bytes16 (crc16 (bytes.take (bytes.length - 2)))

/-! ### Codes -/

/-- The inbound request kinds of Table 9-3. -/
inductive RequestKind where
  | join | leave | leaseExtend | cancel | sleepVote | wake | tempReport | rowOpen | colRead | colWrite | rowClose
  deriving DecidableEq, Repr

/-- Request kind codes (Table 13-4). -/
def RequestKind.code : RequestKind → Byte
  | .join => 0x01
  | .leave => 0x02
  | .leaseExtend => 0x03
  | .cancel => 0x04
  | .sleepVote => 0x05
  | .wake => 0x06
  | .tempReport => 0x07
  | .rowOpen => 0x10
  | .colRead => 0x11
  | .colWrite => 0x12
  | .rowClose => 0x13

/-- The request kind a code names, if it names one (Table 13-4). -/
def RequestKind.ofCode (k : Byte) : Option RequestKind :=
  [.join, .leave, .leaseExtend, .cancel, .sleepVote, .wake, .tempReport, .rowOpen, .colRead, .colWrite, .rowClose].find?
    fun r => r.code == k

/-- The frame length of a request kind in bytes (Table 13-2). -/
def RequestKind.length : RequestKind → Nat
  | .join => 7
  | .leave => 6
  | .leaseExtend => 7
  | .cancel => 7
  | .sleepVote => 6
  | .wake => 6
  | .tempReport => 8
  | .rowOpen => 10
  | .colRead => 13
  | .colWrite => 77
  | .rowClose => 7

/-- Refusal reason codes (Table 13-5). -/
def RefusalReason.code : RefusalReason → Byte
  | .noSession => 0x01
  | .staleSession => 0x02
  | .badKind => 0x03
  | .rankOffline => 0x04
  | .rankStopping => 0x05
  | .sessionClosing => 0x06
  | .addressRange => 0x07
  | .duplicateTag => 0x08
  | .queueFull => 0x09
  | .noWriteSlot => 0x0A
  | .rowMismatch => 0x0B
  | .notOwner => 0x0C
  | .leaseLost => 0x0D

/-- Denial reason codes (Table 13-5). -/
def DenialReason.code : DenialReason → Byte
  | .notOwner => 0x0C
  | .contended => 0x20
  | .limit => 0x21

/-- Revocation reason codes (Table 13-5). -/
def RevokeReason.code : RevokeReason → Byte
  | .expired => 0x01
  | .drain => 0x02
  | .portLost => 0x03
  | .portLeft => 0x04
  | .stop => 0x05

/-- Rank state codes (Table 13-5). -/
def RankStateName.code : RankStateName → Byte
  | .offline => 0x00
  | .bringUp => 0x01
  | .active => 0x02
  | .powerDown => 0x03
  | .sleep => 0x04
  | .waking => 0x05
  | .stopping => 0x06

/-- Thermal state codes (Table 13-5). -/
def Thermal.code : Thermal → Byte
  | .normal => 0x00
  | .hot => 0x01

/-- The purposes byte: bit 0 REFRESH, 1 CALIBRATE, 2 SLEEP, 3 STOP (Table 13-3 note 2). -/
def Purposes.code (u : Purposes) : Byte :=
  (if u.refresh then 1 else 0) ||| (if u.calibrate then 2 else 0) ||| (if u.sleep then 4 else 0) |||
    (if u.stop then 8 else 0)

/-! ### Outbound frames -/

/-- The kind code of an outbound frame (Table 13-4). -/
def Message.code : Message → Byte
  | .issued => 0x20
  | .openHit => 0x21
  | .closeMoot => 0x22
  | .data _ _ => 0x23
  | .written => 0x24
  | .refused _ => 0x25
  | .cancelled => 0x26
  | .welcome => 0x30
  | .joinRefused => 0x31
  | .bye => 0x32
  | .extended _ _ _ => 0x33
  | .extendDenied _ _ => 0x34
  | .cancelMiss _ => 0x35
  | .voteNoted => 0x36
  | .wakeNoted => 0x37
  | .tempNoted _ _ => 0x38
  | .leaseWarning _ _ => 0x40
  | .contended _ _ => 0x41
  | .drain _ _ => 0x42
  | .revoked _ _ => 0x43
  | .rankState _ => 0x44
  | .resync _ => 0x45
  | .thermal _ => 0x46

/-- A bank number as one byte. -/
def bankByte (b : Bank) : Byte := BitVec.ofNat 8 b.val

/-- The body of an outbound frame (Table 13-3). WELCOME carries revision 1, 16 credits, 8 slots, 4 spaces (R139);
JOIN_REFUSED the supported revision 1. -/
def Message.body : Message → List Byte
  | .issued => []
  | .openHit => []
  | .closeMoot => []
  | .data _ bytes => bytes.toList
  | .written => []
  | .refused r => [r.code]
  | .cancelled => []
  | .welcome => [1, 16, 8, 4]
  | .joinRefused => [1]
  | .bye => []
  | .extended b t k => bankByte b :: (bytes16 (BitVec.ofNat 16 t) ++ [BitVec.ofNat 8 k])
  | .extendDenied b r => [b, r.code]
  | .cancelMiss t => [t]
  | .voteNoted => []
  | .wakeNoted => []
  | .tempNoted t h => bytes16 (BitVec.ofInt 16 t) ++ [h.code]
  | .leaseWarning b t => bankByte b :: bytes16 (BitVec.ofNat 16 t)
  | .contended b t => bankByte b :: bytes16 (BitVec.ofNat 16 t)
  | .drain t u => bytes16 (BitVec.ofNat 16 t) ++ [u.code]
  | .revoked b r => [bankByte b, r.code]
  | .rankState n => [n.code]
  | .resync e => [e]
  | .thermal t => [t.code]

/-- Bytes followed by their frame check, high byte first (R172). -/
def withCheck (bytes : List Byte) : List Byte := bytes ++ bytes16 (crc16 bytes)

/-- The frame as the link takes it: the outbound sequence number in byte 0, then what was fixed at its creation, then the
check over the finished frame (R174, Table 13-1). -/
def OutFrame.bytes (f : OutFrame) (seq : Byte) : List Byte :=
  withCheck ([seq, f.epoch, f.message.code, f.tag] ++ f.message.body)

end Sys2Proof.Machine
end

