-- ==== Sys2Proof/Machine/Operands.lean ====
section
/-! DEFINITION. How a command's operands are read: banks, rows and columns against their ranges, the flags byte, the
temperature (Table 3-2 check 3, R100, R173). -/

namespace Sys2Proof.Machine

/-- The bank a byte names, if it is 0 to 15 (R173). -/
def bankOf (b : Byte) : Option Bank := if h : b.toNat < 16 then some ⟨b.toNat, h⟩ else none

/-- Bit 0 of the flags byte is auto-close; bits 1 to 7 are ignored (R173). -/
def autoCloseOf (flags : Byte) : Bool := flags.getLsbD 0

/-- Whether a row lies below the row count of the active profile (check 3 of Table 3-2). -/
def rowInRange (p : Profile) (row : Row) : Bool := decide (row.toNat < p.rowCount)

/-- Whether a column is at most 1023 and a multiple of 8 (check 3 of Table 3-2). -/
def columnInRange (column : Column) : Bool := decide (column.toNat ≤ 1023) && decide (column.toNat % 8 = 0)

/-- A queued-kind request as it arrives, before its slot is known. -/
inductive Arrival where
  | rowOpen (row : Row)
  | colRead (row : Row) (column : Column) (autoClose : Bool)
  | colWrite (row : Row) (column : Column) (autoClose : Bool) (data : Block)
  | rowClose

/-- The row and column part of check 3 of Table 3-2, by kind. -/
def Arrival.inRange (p : Profile) : Arrival → Bool
  | .rowOpen row => rowInRange p row
  | .colRead row column _ => rowInRange p row && columnInRange column
  | .colWrite row column _ _ => rowInRange p row && columnInRange column
  | .rowClose => true

/-- The temperature a report is recorded as: signed, clamped to −40 to 150 (R100). -/
def clampTemperature (t : BitVec 16) : Int := max (-40) (min 150 t.toInt)

end Sys2Proof.Machine
end

