-- ==== Sys2Proof/Machine/Ops.lean ====
section
/-! DEFINITION. The shared operations of the Halcra 7204: what one block asks another to do within a happening. Each is named
for what it does and cites its rule; the meanings of the commands are written over them. -/

namespace Sys2Proof.Machine

/-! ### Changing one item -/

/-- Change one port's Port Link Unit. -/
def State.modLink (s : State) (p : Port) (f : PortLink → PortLink) : State := { s with links := s.links.modify p f }

/-- Change one port's Admission Queue. -/
def State.modQueue (s : State) (p : Port) (f : PortQueue → PortQueue) : State := { s with queues := s.queues.modify p f }

/-- Change one bank entry. -/
def State.modBank (s : State) (b : Bank) (f : BankEntry → BankEntry) : State := { s with banks := s.banks.modify b f }

/-- Change one port's write slots and read-return spaces. -/
def State.modMover (s : State) (p : Port) (f : MoverPort → MoverPort) : State :=
  { s with mover := { s.mover with ports := s.mover.ports.modify p f } }

/-- Change the counters of one port. -/
def State.modPortCounters (s : State) (p : Port) (f : PortCounters → PortCounters) : State :=
  { s with fault := { s.fault with ports := s.fault.ports.modify p f } }

/-- Change the counters of the rank. -/
def State.modRankCounters (s : State) (f : RankCounters → RankCounters) : State :=
  { s with fault := { s.fault with rank := f s.fault.rank } }

/-- Change the rank state alone, without the notices of R117. -/
def State.setRank (s : State) (r : RankState) : State := { s with rank := { s.rank with state := r } }

/-- Change the drain record. -/
def State.setDrain (s : State) (d : Drain) : State := { s with drain := d }

/-! ### Outbound frames and fault records -/

/-- Hand a frame to the outbound queue of a port (R22, R145). -/
def State.send (s : State) (p : Port) (f : OutFrame) : State :=
  s.modLink p fun l => { l with outbound := l.outbound ++ [f] }

/-- A reply: the epoch current at its creation and the tag of the request answered (Table 13-1). -/
def State.reply (s : State) (p : Port) (tag : Byte) (m : Message) : State := s.send p ⟨s.frameEpoch p, tag, m⟩

/-- A notice: the epoch current at its creation and tag 0 (Table 13-1). -/
def State.notice (s : State) (p : Port) (m : Message) : State := s.send p ⟨s.frameEpoch p, 0, m⟩

/-- A notice to every port whose session is current, in the order MP0 to MP3 (R103, R117). -/
def State.noticeAll (s : State) (m : Message) : State :=
  allPorts.foldl (fun s p => if s.current p then s.notice p m else s) s

/-- REFUSED with a reason, counted in the port's refused counter (R44, R137, R52, R59). -/
def State.refuse (s : State) (p : Port) (tag : Byte) (r : RefusalReason) : State :=
  (s.reply p tag (.refused r)).modPortCounters p fun c => { c with refused := c.refused + 1 }

/-- The ALERT line judged anew (R168). -/
def FaultUnit.judge (f : FaultUnit) : FaultUnit := { f with alert := f.alertDue }

/-- A record handed to the Fault Unit at a 48-bit rank time: appended, or dropped and counted when the list is full (R165,
R166). -/
def FaultUnit.hand (f : FaultUnit) (r : FaultRecord) : FaultUnit :=
  if f.list.length < 16 then { f with list := f.list ++ [r] }.judge
  else { f with overflow := true, overflowCount := min 255 (f.overflowCount + 1) }

/-- Hand over a record stamped with the present rank time (R165). -/
def State.handFault (s : State) (k : FaultKind) (p : Option Port) (b : Option Bank) (d : FaultDetail) : State :=
  { s with fault := s.fault.hand ⟨k, p, b, d, s.time48⟩ }

/-! ### Holds (R24, R26) -/

/-- A hold raised to an instant: never moved earlier (R24). -/
def Hold.raise (now t : Nat) : Hold → Hold
  | none => if now < t then some t else none
  | some u => some (max u t)

/-- One hold replaced. -/
def Holds.set (h : Holds) (id : HoldId) (v : Hold) : Holds :=
  match id with
  | .bankOpen b => { h with bankOpen := h.bankOpen.put b v }
  | .bankColumn b => { h with bankColumn := h.bankColumn.put b v }
  | .bankClose b => { h with bankClose := h.bankClose.put b v }
  | .groupOpen g => { h with groupOpen := h.groupOpen.put g v }
  | .groupColumn g => { h with groupColumn := h.groupColumn.put g v }
  | .rankOpen => { h with rankOpen := v }
  | .rankColumn => { h with rankColumn := v }
  | .read => { h with read := v }
  | .write => { h with write := v }
  | .rankOperation => { h with rankOperation := v }
  | .command => { h with command := v }

/-- Set one hold of the Hold Unit. -/
def State.setHold (s : State) (id : HoldId) (v : Hold) : State :=
  { s with holds := { s.holds with holds := s.holds.holds.set id v } }

/-- Raise one hold to `amount` ck after now (R24). -/
def State.raise (s : State) (id : HoldId) (amount : Nat) : State :=
  s.setHold id (Hold.raise s.time (s.time + amount) (s.holds.holds.hold id))

/-- Raise several holds, each by its amount. -/
def State.raiseAll (s : State) (l : List (HoldId × Nat)) : State := l.foldl (fun s x => s.raise x.1 x.2) s

/-- The raises of a row-open (R27). -/
def openRaises (p : Profile) (b : Bank) : List (HoldId × Nat) :=
  [(.bankOpen b, p.tOM + p.tCP), (.bankColumn b, p.tOC), (.bankClose b, p.tOM), (.groupOpen (groupOf b), p.tOSG),
    (.rankOpen, p.tOSO), (.command, 1)]

/-- The raises of a close, owner's or revocation (R28). -/
def closeRaises (p : Profile) (b : Bank) : List (HoldId × Nat) := [(.bankOpen b, p.tCP), (.command, 1)]

/-- The raises of a read column without (R29) or with (R30) auto-close. The write hold goes to the later of
T + RD + 4 + 2 − WD and T + 1. -/
def readRaises (p : Profile) (b : Bank) (autoClose : Bool) : List (HoldId × Nat) :=
  [(.groupColumn (groupOf b), p.tCSG), (.rankColumn, p.tCSO),
    if autoClose then (.bankOpen b, p.tRTC + p.tCP) else (.bankClose b, p.tRTC),
    (.write, max (p.readDelay + 6 - p.writeDelay) 1), (.command, 1)]

/-- The raises of a write column without (R31) or with (R32) auto-close. -/
def writeRaises (p : Profile) (b : Bank) (autoClose : Bool) : List (HoldId × Nat) :=
  [(.groupColumn (groupOf b), p.tCSG), (.rankColumn, p.tCSO), (.read, p.writeDelay + 4 + p.tWRD),
    if autoClose then (.bankOpen b, p.writeDelay + 4 + p.tWRC + p.tCP) else (.bankClose b, p.writeDelay + 4 + p.tWRC),
    (.command, 1)]

/-- The raises of a refresh (R34). -/
def refreshRaises (p : Profile) : List (HoldId × Nat) :=
  allBanks.map (fun b => (.bankOpen b, p.tRFB)) ++ [(.rankOperation, p.tRFB), (.command, 1)]

/-- The raise of a command that holds the bus alone: T + 1 by R26 and the amount of R35 or R36. -/
def busRaises (amount : Nat) : List (HoldId × Nat) := [(.command, 1), (.command, amount)]

/-! ### Write slots and read-return spaces (chapter 10) -/

/-- Put a write slot of a port into a state. -/
def State.setSlot (s : State) (p : Port) (i : Fin 8) (w : WriteSlot) : State :=
  s.modMover p fun m => { m with slots := m.slots.put i w }

/-- Put a read-return space of a port into a state. -/
def State.setSpace (s : State) (p : Port) (i : Fin 4) (w : ReadSpace) : State :=
  s.modMover p fun m => { m with spaces := m.spaces.put i w }

/-- Free the slot an entry holds, if it is a COL_WRITE (R149). -/
def State.freeEntrySlot (s : State) (p : Port) (e : Entry) : State :=
  match e.request with
  | .rowOpen _ => s
  | .colRead _ _ _ => s
  | .colWrite _ _ _ slot => s.setSlot p slot .free
  | .rowClose => s

/-- A HELD slot becomes FREE (R149). -/
def WriteSlot.dropHeld : WriteSlot → WriteSlot
  | .free => .free
  | .held _ _ _ => .free
  | .issued t e d => .issued t e d

/-- A BUFFERED space becomes FREE with its DATA frame (R153). -/
def ReadSpace.dropBuffered : ReadSpace → ReadSpace
  | .free => .free
  | .awaiting t e => .awaiting t e
  | .buffered _ _ _ => .free

/-! ### Contention and front-entry evaluation (R11, R47 to R52) -/

/-- Whether the warning of a lease is due: tWARN above 0, not yet warned, the warning point reached (R10). -/
def Lease.warningDue (l : Lease) (tWARN now : Nat) : Bool :=
  decide (0 < tWARN) && !l.warned && decide (l.deadline ≤ now + tWARN)

/-- LEASE_WARNING to the owner of an OPEN bank, and warned set (R10). -/
def State.sendWarning (s : State) (b : Bank) (l : Lease) : State :=
  (s.notice l.owner.port (.leaseWarning b (l.deadline - s.time))).modBank b fun e =>
    { e with state := .opened { l with warned := true } }

/-- Contention set on a bank (R11): an OPEN lease is capped and its owner told, with the warning after it where the cap has
moved the warning point to or before now (R10); a REVOKING bank is only marked; a bank already contended is left as it is
(R12). -/
def State.setContention (s : State) (b : Bank) : State :=
  match (s.banks.look b).state with
  | .closed => s
  | .opened l =>
    if l.contended then s
    else
      let capped := min l.deadline (s.time + s.prof.tCONT)
      let l' := { l with deadline := capped, contended := true }
      let s := s.modBank b fun e => { e with state := .opened l' }
      let s := s.notice l.owner.port (.contended b (capped - s.time))
      if capped < l.deadline && l'.warningDue s.prof.tWARN s.time then s.sendWarning b l' else s
  | .revoking r => s.modBank b fun e => { e with state := .revoking { r with contended := true } }

/-- The message of an answer. -/
def Answer.message : Answer → Message
  | .openHit => .openHit
  | .closeMoot => .closeMoot
  | .refused r => .refused r

/-- The front entry for a bank leaves its queue, and its tag the outstanding set when `settled`. -/
def State.removeFront (s : State) (p : Port) (b : Bank) (tag : Byte) (settled : Bool) : State :=
  s.modQueue p fun q =>
    { entries := q.entries.eraseP fun e => e.bank == b
      outstanding := if settled then q.outstanding.erase tag else q.outstanding }

/-- A front entry answered without issue (R52). -/
def State.answerFront (s : State) (p : Port) (e : Entry) (a : Answer) : State :=
  let s :=
    match a with
    | .openHit => s.reply p e.tag .openHit
    | .closeMoot => s.reply p e.tag .closeMoot
    | .refused r => s.refuse p e.tag r
  (s.removeFront p e.bank e.tag true).freeEntrySlot p e

/-- Evaluate the front entry of a queue for a bank, and while it is answered the next one, at most `fuel` of them (R48,
R52). -/
def State.evalRun (p : Port) (b : Bank) : Nat → State → State
  | 0, s => s
  | fuel + 1, s =>
    match s.front p b with
    | none => s
    | some e =>
      match s.outcome p e with
      | .candidate => s
      | .wait contend => if contend then s.setContention b else s
      | .answer a => State.evalRun p b fuel (s.answerFront p e a)

/-- Evaluate a port's front entry for a bank until the run stops (R52). -/
def State.evalFront (s : State) (p : Port) (b : Bank) : State :=
  State.evalRun p b (s.queues.look p).entries.length s

/-- Every port's front entry for a bank that has changed is evaluated again (R48). -/
def State.reevaluate (s : State) (b : Bank) : State := allPorts.foldl (fun s p => s.evalFront p b) s

/-! ### Readiness and the idle timer (R54, R124) -/

/-- The waiting-reason of every entry set anew (R54). -/
def State.reassess (s : State) : State :=
  { s with
    queues := Vector.ofFn fun p =>
      let q := s.queues.look p
      { q with entries := q.entries.map fun e => { e with waiting := s.waitingOf p e } } }

/-- The idle timer's response to its conditions (R124). -/
def State.judgeIdle (s : State) : State :=
  match s.rank.idle with
  | .stopped =>
    if s.idleTimerHolds then { s with rank := { s.rank with idle := .running (s.time + s.prof.tIDLE) } } else s
  | .running _ => if s.idleTimerHolds then s else { s with rank := { s.rank with idle := .stopped } }
  | .expired => if s.idleTimerHolds then s else { s with rank := { s.rank with idle := .stopped } }

/-- What closes a happening: the idle timer judged (R124), then every entry's readiness assessed (R48, R54). -/
def State.settle (s : State) : State := s.judgeIdle.reassess

/-! ### Revocation and the drain (R17, R74 to R83) -/

/-- One more revocation for the owner's port and for the rank (R17). -/
def State.countRevocation (s : State) (p : Port) : State :=
  (s.modPortCounters p fun c => { c with revocations := c.revocations + 1 }).modRankCounters fun c =>
    { c with revocations := c.revocations + 1 }

/-- Whether a reason replaces the one a REVOKING bank has recorded (R17). -/
def RevokeReason.replaces : RevokeReason → Bool
  | .expired => false
  | .drain => false
  | .portLost => true
  | .portLeft => true
  | .stop => false

/-- A revocation decided for a bank (R17). -/
def State.revoke (s : State) (b : Bank) (reason : RevokeReason) : State :=
  match (s.banks.look b).state with
  | .closed => s
  | .opened l =>
    (s.modBank b fun e => { e with state := .revoking ⟨l.row, l.owner, l.contended, reason⟩ }).countRevocation l.owner.port
  | .revoking r =>
    if reason.replaces then s.modBank b fun e => { e with state := .revoking { r with reason := reason } } else s

/-- A bank goes to CLOSED with its fields discarded (R7, R8, R19). -/
def State.closeBank (s : State) (b : Bank) : State := s.modBank b fun e => { e with state := .closed }

/-- Completion (R80): all banks CLOSED in GRACE or CLOSING takes the drain to SERVICE. -/
def State.completeDrain (s : State) : State :=
  match s.drain.phase with
  | .none => s
  | .grace _ => if s.allClosed then s.setDrain { s.drain with phase := .service } else s
  | .closing => if s.allClosed then s.setDrain { s.drain with phase := .service } else s
  | .service => s

/-- The part of grace end that concerns one bank (R79): an OPEN bank is revoked, recorded and its entries evaluated. -/
def State.graceRevoke (reason : RevokeReason) (s : State) (b : Bank) : State :=
  match (s.banks.look b).state with
  | .closed => s
  | .opened l =>
    ((s.revoke b reason).handFault .drainRevoke (some l.owner.port) (some b) (.reason reason)).reevaluate b
  | .revoking _ => s

/-- The reason of a revocation at grace end (R79). -/
def Drain.reason (d : Drain) : RevokeReason := if d.purposes.stop then .stop else .drain

/-- Grace end (R79), with completion at once if no bank is left (R80). -/
def State.endGrace (s : State) : State :=
  let s := allBanks.foldl (State.graceRevoke s.drain.reason) s
  (s.setDrain { s.drain with phase := .closing }).completeDrain

/-- Whether a drain's first purpose cuts its grace short at once (R75, R78). -/
def Purpose.cuts (u : Purpose) (urgent : Bool) : Bool := u == .stop || urgent

/-- What the start of a drain does to the drain and the banks (R75): GRACE with its one purpose, and at once grace end where grace
is cut short or tGR is 0, or completion. -/
def State.beginDrain (s : State) (u : Purpose) (urgent : Bool) : State :=
  let s := s.setDrain ⟨.grace (s.time + s.prof.tGR), Purposes.empty.add u, urgent⟩
  if u.cuts urgent || s.prof.tGR == 0 then s.endGrace else s.completeDrain

/-- The DRAIN notices of a drain that started in the state `old` (R76): to each port whose session owned an OPEN bank then, with
the grace remaining and the one purpose. -/
def State.sendDrain (s old : State) (u : Purpose) (urgent : Bool) : State :=
  (allPorts.filter old.ownsOpen).foldl
    (fun s p => s.notice p (.drain (if u.cuts urgent then 0 else old.prof.tGR) (Purposes.empty.add u))) s

/-- A drain starts with its first purpose (R75). `others` are the effects that the happening has still to make: the DRAIN notices
are created after them (R76). -/
def State.startDrain (s : State) (u : Purpose) (urgent : Bool) (others : State → State := id) : State :=
  (others (s.beginDrain u urgent)).sendDrain s u urgent

/-- A purpose added, REFRESH possibly marked urgent (R75, R78), then the happening's `others`, which the DRAIN notices of a start
follow (R76). -/
def State.addPurpose (s : State) (u : Purpose) (urgent : Bool) (others : State → State := id) : State :=
  match s.drain.phase with
  | .none => s.startDrain u urgent others
  | .grace _ =>
    let cut := urgent || (u == .stop && !s.drain.purposes.has u)
    let s := s.setDrain { s.drain with purposes := s.drain.purposes.add u, urgent := s.drain.urgent || urgent }
    others (if cut then s.endGrace else s)
  | .closing => others (s.setDrain { s.drain with purposes := s.drain.purposes.add u, urgent := s.drain.urgent || urgent })
  | .service => others (s.setDrain { s.drain with purposes := s.drain.purposes.add u, urgent := s.drain.urgent || urgent })

/-- The drain without some purposes: NONE when the set is empty (R82, R83); urgent goes with REFRESH (R78). -/
def Drain.without (d : Drain) (u : Purposes) : Drain :=
  if u.isEmpty then .idle else { d with purposes := u, urgent := d.urgent && u.refresh }

/-- A purpose leaves the set, served (R82) or withdrawn (R83). -/
def State.dropPurpose (s : State) (u : Purpose) : State := s.setDrain (s.drain.without (s.drain.purposes.drop u))

/-! ### Votes, exits and wakes (R126 to R131) -/

/-- A port's sleep vote. -/
def State.setVote (s : State) (p : Port) (v : Option Vote) : State :=
  { s with rank := { s.rank with votes := s.rank.votes.put p v } }

/-- Every current session's vote becomes AWAKE (R127). -/
def State.votesAwake (s : State) : State :=
  { s with rank := { s.rank with votes := s.rank.votes.map fun v => v.map fun _ => .awake } }

/-- Exit wanted becomes yes in POWERDOWN (R126). -/
def State.wantExit (s : State) : State :=
  match s.rank.state with
  | .powerDown r => s.setRank (.powerDown { r with exitWanted := true })
  | .offline => s
  | .bringUp _ _ => s
  | .active => s
  | .sleep _ => s
  | .waking _ => s
  | .stopping => s

/-- Wake wanted becomes yes in SLEEP (R131). -/
def State.wantWake (s : State) : State :=
  match s.rank.state with
  | .sleep _ => s.setRank (.sleep true)
  | .offline => s
  | .bringUp _ _ => s
  | .active => s
  | .powerDown _ => s
  | .waking _ => s
  | .stopping => s

/-- Sleep begun set or cleared. -/
def State.setBegun (s : State) (b : Bool) : State := { s with rank := { s.rank with sleepBegun := b } }

/-- Unanimity judged (R128): sleep entry begins, with exit wanted in POWERDOWN (R126), or SLEEP is withdrawn (R83). The idle
timer is judged at the start or end of a drain that this makes (R97, R124), since one happening can hold both: a rejoin whose
session end begins a sleep entry that its join withdraws. `others` are the effects that the happening has still to make, which the
DRAIN notices of a start follow (R76). -/
def State.judgeUnanimity (s : State) (others : State → State := id) : State :=
  if s.unanimous then
    if s.rank.sleepBegun then others s
    else (s.setBegun true).addPurpose .sleep false fun s => others s.wantExit.judgeIdle
  else if s.rank.sleepBegun then others ((s.dropPurpose .sleep).setBegun false).judgeIdle
  else others s

/-- Exit wanted while the thermal state is HOT and some vote is VOTED (R126). -/
def State.judgeHotExit (s : State) : State :=
  if s.refresh.thermal = .hot ∧ s.someVoted then s.wantExit else s

/-! ### The thermal state (R102, R103) -/

/-- The thermal state after an evaluation (R102). -/
def State.thermalNext (s : State) : Thermal :=
  let th : Int := s.prof.threshold
  match s.refresh.thermal with
  | .normal =>
    if s.refresh.thot || s.refresh.table.any (fun t => t.any fun x => decide (th ≤ x)) then .hot else .normal
  | .hot =>
    if !s.refresh.thot && s.refresh.table.all (fun t => t.all fun x => decide (x < th - 5)) then .normal else .hot

/-- The reload of the interval timer (R90). -/
def State.reload (s : State) : Nat :=
  match s.refresh.thermal with
  | .normal => s.prof.tRFI
  | .hot => s.prof.tRFI / 2

/-- The expiry time after a change of the thermal state (R103 step 3). -/
def State.timerAfterChange (s : State) (t : Thermal) : Option Nat :=
  match t with
  | .normal => s.refresh.timer
  | .hot => s.refresh.timer.map fun x => min x (s.time + s.prof.tRFI / 2)

/-- The port a thermal record names (R103 step 2). -/
def ThermalCause.port? : ThermalCause → Option Port
  | .thot => none
  | .report p => some p
  | .sessionEnd p => some p

/-- Steps 1 to 3 of a change of the thermal state (R103): notices, fault record, timer. -/
def State.thermalChange (s : State) (t : Thermal) (c : ThermalCause) : State :=
  let s := { s with refresh := { s.refresh with thermal := t } }
  let s := s.noticeAll (.thermal t)
  let s := s.handFault (if t = .hot then .thermalHot else .thermalClear) c.port? none (.cause c)
  { s with refresh := { s.refresh with timer := s.timerAfterChange t } }

/-- Step 4 of R103: the Rank State Controller takes the new state as a cause of wake when it is HOT (R131), for the exit (R126)
and for unanimity (R128). -/
def State.reportThermal (s : State) : State :=
  (if s.refresh.thermal = .hot then s.wantWake else s).judgeHotExit.judgeUnanimity

/-- The thermal state evaluated (R102), `reply` standing between the change and its report: a drain that the report starts
sends its DRAIN notices after the other frames of the happening (R76). -/
def State.evalThermal (s : State) (c : ThermalCause) (reply : State → State) : State :=
  if s.thermalNext = s.refresh.thermal then reply s else (reply (s.thermalChange s.thermalNext c)).reportThermal

/-- A change of the THOT level taken (R101). -/
def State.takeThot (s : State) (level : Bool) : State :=
  State.evalThermal { s with refresh := { s.refresh with thot := level } } .thot id

/-! ### Rank state changes (R116, R117, R121, R123) -/

/-- The rank state changes and RANK_STATE is sent (R117). -/
def State.become (s : State) (r : RankState) : State := (s.setRank r).noticeAll (.rankState r.name)

/-- The rank becomes ACTIVE (R119): the interval timer starts (R90) and unanimity is judged (R128). -/
def State.becomeActive (s : State) : State :=
  let s := s.become .active
  State.judgeUnanimity { s with refresh := { s.refresh with timer := some (s.time + s.reload) } }

/-- One entry refused at a STOP (R59). -/
def State.refuseStopped (p : Port) (s : State) (e : Entry) : State :=
  ((s.refuse p e.tag .rankStopping).freeEntrySlot p e).modQueue p fun q =>
    { q with outstanding := q.outstanding.erase e.tag }

/-- One queue emptied by refusal, oldest entry first (R59). -/
def State.refuseQueue (s : State) (p : Port) : State :=
  ((s.queues.look p).entries.foldl (State.refuseStopped p) s).modQueue p fun q => { q with entries := [] }

/-- Every queue emptied by refusal (R59). -/
def State.refuseQueues (s : State) : State := allPorts.foldl State.refuseQueue s

/-- A STOP carried out (R121), in its order. SLEEP is not withdrawn by it (R128). -/
def State.carryOutStop (s : State) : State :=
  let s := s.become .stopping
  let s := { s with rank := { s.rank with stopPending := false } }
  let s := s.refuseQueues
  let s := { s with rank := { s.rank with idle := .stopped } }
  s.addPurpose .stop false

/-- Entry to OFFLINE with the retained flag as given (R123), with the other blocks' parts (R74, R90, R106). -/
def State.enterOffline (s : State) (retained : Bool) : State :=
  let s := { s with
    rank := { s.rank with stopPending := false, sleepBegun := false, idle := .stopped, retained := retained }
    refresh := { s.refresh with timer := none }
    calibration := { s.calibration with shortDue := false, lock := none }
    drain := .idle }
  s.votesAwake.become .offline

/-- Short calibration becomes due (R108). -/
def State.shortCalibrationDue (s : State) : State :=
  if s.calibration.shortDue then s
  else State.addPurpose { s with calibration := { s.calibration with shortDue := true } } .calibrate false

/-! ### Sessions (R137, R139, R143) -/

/-- How a session ends, of the ways that run through R143; the soft reset is written with its own command. -/
inductive SessionEnd where
  | lost | rejoin | left
  deriving DecidableEq, Repr

/-- The outbound queue discarded, and with it every BUFFERED space of the port (R134, R145, R153). -/
def State.discardOutbound (s : State) (p : Port) : State :=
  (s.modLink p fun l => { l with outbound := [] }).modMover p fun m => { m with spaces := m.spaces.map ReadSpace.dropBuffered }

/-- The link record of a port whose session ends: DOWN with everything absent at LINK_DOWN (R134); otherwise LINKED, with
resync-pending cleared by a rejoin (R145). -/
def SessionEnd.link (c : SessionEnd) (l : PortLink) : PortLink :=
  match c with
  | .lost => { l with session := .down, expected := 0, resync := false, outSeq := 0 }
  | .rejoin => { l with session := .linked, resync := false }
  | .left => { l with session := .linked }

/-- The reason of the revocations at a session end (R85, R86). -/
def SessionEnd.reason : SessionEnd → RevokeReason
  | .lost => .portLost
  | .rejoin => .portLost
  | .left => .portLeft

/-- The fault kind of a session end, if it has one (R143 step 5). -/
def SessionEnd.fault? : SessionEnd → Option FaultKind
  | .lost => some .portLost
  | .rejoin => some .portRejoin
  | .left => none

/-- The queue emptied without replies and HELD slots freed (R43, R149). -/
def State.discardQueue (s : State) (p : Port) : State :=
  (s.modQueue p fun _ => .reset).modMover p fun m => { m with slots := m.slots.map WriteSlot.dropHeld }

/-- A bank of an ended or leaving session: revoked, and its front entries evaluated (R85, R86). -/
def State.revokeOwned (o : Owner) (reason : RevokeReason) (s : State) (b : Bank) : State :=
  if s.owns o b then (s.revoke b reason).reevaluate b else s

/-- Every revoked-from record that names the session is removed (R3). -/
def State.forget (s : State) (o : Owner) : State :=
  { s with banks := s.banks.map fun e =>
      { e with revokedFrom := e.revokedFrom.filter fun r => r.owner != o } }

/-- The end of the session of epoch `e` on a port, step by step (R143); the DRAIN notices of a drain that step 6 starts follow step
7 (R76). -/
def State.endSession (s : State) (p : Port) (e : Byte) (c : SessionEnd) : State :=
  let o : Owner := ⟨p, e⟩
  let s := (s.discardOutbound p).modLink p c.link
  let s := s.discardQueue p
  let s := allBanks.foldl (State.revokeOwned o c.reason) (s.forget o)
  let s := match c.fault? with
    | none => s
    | some k => s.handFault k (some p) none (.epoch e)
  (s.setVote p none).judgeUnanimity fun s =>
    State.evalThermal { s with refresh := { s.refresh with table := s.refresh.table.put p none } } (.sessionEnd p) id

/-- The next epoch: 255 is followed by 1 (R139). -/
def nextEpoch (e : Byte) : Byte := if e = 255#8 then 1#8 else e + 1

/-- A JOIN of revision 1 taken in LINKED (R139). -/
def State.openSession (s : State) (p : Port) (tag : Byte) : State :=
  let e := nextEpoch s.epochCounter
  let s := State.modLink { s with epochCounter := e } p fun l => { l with session := .joined e }
  let s := s.reply p tag .welcome
  let s := s.setVote p (some .awake)
  let s := s.notice p (.rankState s.rank.state.name)
  s.judgeUnanimity.wantWake

/-! ### Inbound frames (R135 to R137) -/

/-- An inbound frame discarded: counted and recorded (R135, R136). -/
def State.discardFrame (s : State) (p : Port) (d : FaultDetail) : State :=
  (s.modPortCounters p fun c => { c with discarded := c.discarded + 1 }).handFault .frameError (some p) none d

/-- A sound frame out of sequence (R136). -/
def State.outOfSequence (s : State) (p : Port) : State :=
  let s := s.discardFrame p .sequence
  if (s.links.look p).resync then s
  else (s.notice p (.resync (s.links.look p).expected)).modLink p fun l => { l with resync := true }

/-- A sound frame in sequence: the expected number advances and resync-pending clears (R136). -/
def State.inSequence (s : State) (p : Port) : State :=
  s.modLink p fun l => { l with expected := l.expected + 1, resync := false }

/-- The session checks of R137 for a kind that is or is not JOIN: the refusal reason, if one fails. -/
def State.sessionCheck (s : State) (p : Port) (h : Header) (isJoin : Bool) : Option RefusalReason :=
  match (s.links.look p).session.epoch? with
  | none => if isJoin then none else some .noSession
  | some e => if isJoin || h.epoch == e then none else some .staleSession

/-- A sound frame taken (R136, R137): nothing passes in DOWN (R133); out of sequence it is discarded; refused by a session
check it reaches no other block; else it goes on to `route`. -/
def State.receive (s : State) (p : Port) (h : Header) (isJoin : Bool) (route : State → State) : State :=
  if (s.links.look p).session.laneUp = false then s
  else if h.seq ≠ (s.links.look p).expected then s.outOfSequence p
  else
    let s := s.inSequence p
    match s.sessionCheck p h isJoin with
    | some r => s.refuse p h.tag r
    | none => route s

/-! ### Arrival of a queued kind (R44, R45) -/

/-- The request of an arrival, a COL_WRITE with its slot. -/
def Arrival.request (a : Arrival) (slot : Fin 8) : Request :=
  match a with
  | .rowOpen row => .rowOpen row
  | .colRead row c ac => .colRead row c ac
  | .colWrite row c ac _ => .colWrite row c ac slot
  | .rowClose => .rowClose

/-- Whether an arrival needs a write slot (check 6 of Table 3-2). -/
def Arrival.needsSlot : Arrival → Bool
  | .rowOpen _ => false
  | .colRead _ _ _ => false
  | .colWrite _ _ _ _ => true
  | .rowClose => false

/-- The slot taken by a COL_WRITE becomes HELD with the request's data (R148). -/
def State.holdSlot (s : State) (p : Port) (tag : Byte) (slot : Fin 8) : Arrival → State
  | .rowOpen _ => s
  | .colRead _ _ _ => s
  | .colWrite _ _ _ d => s.setSlot p slot (.held tag (s.frameEpoch p) d)
  | .rowClose => s

/-- An acceptance reported to the Rank State Controller (R45 step 5): the vote becomes AWAKE (R127), the idle timer and
unanimity are judged (R124, R128), and the arrival is a cause of exit and of wake (R126, R131). -/
def State.reportArrival (s : State) (p : Port) : State :=
  ((s.setVote p (some .awake)).judgeIdle.judgeUnanimity).wantExit.wantWake

/-- A request accepted, in the order of R45. -/
def State.accept (s : State) (p : Port) (tag : Byte) (b : Bank) (a : Arrival) (slot : Fin 8) : State :=
  let isFront := (s.front p b).isNone
  let s := s.modQueue p fun q =>
    { entries := q.entries ++ [⟨tag, b, a.request slot, s.time, false, none⟩], outstanding := q.outstanding ++ [tag] }
  let s := s.holdSlot p tag slot a
  let s := s.modPortCounters p fun c => { c with accepted := c.accepted + 1 }
  let s := s.reportArrival p
  if isFront then s.evalFront p b else s

/-- The first arrival check of Table 3-2 that fails, or the bank and slot the request is accepted with (R44). -/
def State.arrivalCheck (s : State) (p : Port) (tag bank : Byte) (a : Arrival) : Except RefusalReason (Bank × Fin 8) :=
  if s.rank.state = .offline then .error .rankOffline
  else if s.rank.state = .stopping then .error .rankStopping
  else if (s.links.look p).session.isLeaving then .error .sessionClosing
  else
    match bankOf bank with
    | none => .error .addressRange
    | some b =>
      if a.inRange s.prof = false then .error .addressRange
      else if tag ∈ (s.queues.look p).outstanding then .error .duplicateTag
      else if 16 ≤ (s.queues.look p).entries.length then .error .queueFull
      else if a.needsSlot then
        match s.freeSlot p with
        | none => .error .noWriteSlot
        | some i => .ok (b, i)
      else .ok (b, 0)

/-- A queued-kind request arrives (R44, R45). -/
def State.arrive (s : State) (p : Port) (tag bank : Byte) (a : Arrival) : State :=
  match s.arrivalCheck p tag bank a with
  | .error r => s.refuse p tag r
  | .ok (b, slot) => s.accept p tag b a slot

end Sys2Proof.Machine
end

