-- ==== Sys2Proof/Machine/Arbiter.lean ====
section
/-! DEFINITION. The Command Slot Arbiter: the offers that stand before it and the one it grants (R60 to R67), and what every
issue does (R68). -/

namespace Sys2Proof.Machine

/-! ### Rank operations (class 1) -/

/-- The rank operations of Table 4-2; a refresh is a service refresh or a pull-in. -/
inductive RankOperation where
  | refresh (pullIn : Bool)
  | shortCalibration
  | longCalibration
  | modeSet (w : ModeWord)
  | powerDownEntry
  | powerDownExit
  | selfRefreshEntry
  | selfRefreshExit
  deriving DecidableEq, Repr

/-- What a drain in SERVICE offers in ACTIVE or STOPPING for the purpose at turn (R81, R94, R109, R129). -/
def State.drainOffer (s : State) : Option RankOperation :=
  match s.drain.turn with
  | none => none
  | some .refresh => if 0 < s.refresh.balance then some (.refresh false) else none
  | some .calibrate => if s.calibration.shortDue ∧ s.calibration.busy = .none then some .shortCalibration else none
  | some .selfRefresh => some .selfRefreshEntry

/-- What an ACTIVE rank offers without a drain: a pull-in while idle (R97), a power-down entry once the idle timer has expired
(R125). -/
def State.idleOffer (s : State) : Option RankOperation :=
  if s.rankIdle && s.pullInPossible then some (.refresh true)
  else if s.rank.idle = .expired then some .powerDownEntry
  else none

/-- What a bring-up phase offers (R119, R120, R107). -/
def BringUpPhase.offer : BringUpPhase → Option RankOperation
  | .resetHold _ => none
  | .clockSettle _ => none
  | .exitWait none => some .selfRefreshExit
  | .exitWait (some _) => none
  | .modeLoad .latencyNext => some (.modeSet .latency)
  | .modeLoad .writeNext => some (.modeSet .write)
  | .modeLoad (.settling _) => none
  | .longCal issued => if issued then none else some .longCalibration

/-- The rank operation wanted in the present rank state, before its holds are asked about (Table 4-2). -/
def State.operationOffer (s : State) : Option RankOperation :=
  match s.rank.state with
  | .offline => none
  | .bringUp _ phase => phase.offer
  | .active => if s.drain.phase.isActive then s.drainOffer else s.idleOffer
  | .powerDown r =>
    if r.exitWanted && (r.passed || s.reached r.residencyEnd) then some .powerDownExit else none
  | .sleep wakeWanted => if wakeWanted then some .selfRefreshExit else none
  | .waking _ => none
  | .stopping => s.drainOffer

/-- Whether a rank operation's holds are met and, for all but the exits, all 16 banks are CLOSED (R37, R64). -/
def State.operationReady (s : State) : RankOperation → Bool
  | .refresh _ => s.operationHoldsMet && s.allClosed
  | .shortCalibration => s.operationHoldsMet && s.allClosed
  | .longCalibration => s.operationHoldsMet && s.allClosed
  | .modeSet _ => s.operationHoldsMet && s.allClosed
  | .powerDownEntry => s.operationHoldsMet && s.allClosed
  | .powerDownExit => s.met .command
  | .selfRefreshEntry => s.operationHoldsMet && s.allClosed
  | .selfRefreshExit => s.met .command

/-- The ready rank operation; at most one is offered at a time (R64). -/
def State.readyOperation (s : State) : Option RankOperation := s.operationOffer.filter s.operationReady

/-! ### Revocation closes (class 2) -/

/-- Whether the revocation close of a bank is ready (R18). -/
def State.revocationReady (s : State) (b : Bank) : Bool :=
  match (s.banks.look b).state with
  | .closed => false
  | .opened _ => false
  | .revoking _ => s.closeHoldsMet b

/-- The lowest-numbered bank whose revocation close is ready (R65). -/
def State.readyRevocation (s : State) : Option Bank := allBanks.find? s.revocationReady

/-! ### Request candidates (classes 3 and 4) -/

/-- The port that follows in the round (R66). -/
def nextPort (p : Port) : Port := p + 1

/-- The round that starts at the port the pointer names (R66). -/
def State.round (s : State) : List Port :=
  [s.arbiter.pointer, s.arbiter.pointer + 1, s.arbiter.pointer + 2, s.arbiter.pointer + 3]

/-- The ready candidates of a port, in queue order, aged or not (R53, R55). -/
def State.readyOf (s : State) (aged : Bool) (p : Port) : List (Port × Entry) :=
  ((s.queues.look p).entries.filter fun e => e.aged == aged && s.isReady p e).map fun e => (p, e)

/-- All ready candidates, aged or not, in round order and within a port in queue order. -/
def State.readyRequests (s : State) (aged : Bool) : List (Port × Entry) := s.round.flatMap (s.readyOf aged)

/-- The first of a list with the earliest acceptance time: the one that has waited longest (R66, R1). -/
def oldest : List (Port × Entry) → Option (Port × Entry)
  | [] => none
  | x :: rest =>
    match oldest rest with
    | none => some x
    | some y => if y.2.accepted < x.2.accepted then some y else some x

/-! ### The grant -/

/-- What the arbiter grants. -/
inductive Grant where
  | operation (op : RankOperation)
  | revocation (b : Bank)
  | request (aged : Bool) (p : Port) (e : Entry)
  deriving DecidableEq, Repr

/-- The grant at the present rank time, by the four classes, highest first (R63); `none` when no offer is ready (R60). -/
def State.grant (s : State) : Option Grant :=
  match s.readyOperation with
  | some op => some (.operation op)
  | none =>
    match s.readyRevocation with
    | some b => some (.revocation b)
    | none =>
      match oldest (s.readyRequests true) with
      | some (p, e) => some (.request true p e)
      | none =>
        match s.readyRequests false with
        | [] => none
        | (p, e) :: _ => some (.request false p e)

/-! ### What an issue does (R68) -/

/-- Step 1 of R68 with step 2: the command driven in the ck of the grant, and the holds that follow recorded. -/
def State.drive (s : State) (c : BusCommand) (raises : List (HoldId × Nat)) : State :=
  State.raiseAll { s with arbiter := { s.arbiter with commandBus := some c } } raises

/-- Step 5 of R68 for a rank operation (R64, R73). -/
def State.recordOperation (s : State) : State := { s with arbiter := { s.arbiter with lastGrant := .rankOperation } }

/-- Step 5 of R68 for a revocation close (R65, R73). -/
def State.recordRevocation (s : State) : State := { s with arbiter := { s.arbiter with lastGrant := .revocationClose } }

/-- Step 5 of R68 for a request: the pointer moves to the port after the winner's (R66, R67, R73). -/
def State.recordRequest (s : State) (aged : Bool) (p : Port) : State :=
  { s with arbiter := { s.arbiter with pointer := nextPort p, lastGrant := if aged then .agedRequest p else .request p } }

/-- A burst added to the data bus record, in order of start time (R33). -/
def State.addBurst (s : State) (b : Burst) : State :=
  { s with holds := { s.holds with
      bursts := s.holds.bursts.takeWhile (fun x => decide (x.start ≤ b.start)) ++
        b :: s.holds.bursts.dropWhile (fun x => decide (x.start ≤ b.start)) } }

/-- What follows step 5 of the issue of a request whose bank changed or not: the other ports' front entries (R68 step 6),
unanimity for the entry that left its queue (R128). -/
def State.afterRequest (s : State) (b : Bank) (changed : Bool) : State :=
  (if changed then s.reevaluate b else s).judgeUnanimity.settle

/-- The grant at the present rank time if it is of a rank operation. -/
def State.grantedOperation (s : State) : Option RankOperation :=
  match s.grant with
  | some (.operation op) => some op
  | some (.revocation _) => none
  | some (.request _ _ _) => none
  | none => none

/-- The grant at the present rank time if it is of a request. -/
def State.grantedRequest (s : State) : Option (Bool × Port × Entry) :=
  match s.grant with
  | some (.request aged p e) => some (aged, p, e)
  | some (.operation _) => none
  | some (.revocation _) => none
  | none => none

/-- The grant at the present rank time if it is of a revocation close. -/
def State.grantedRevocation (s : State) : Option Bank :=
  match s.grant with
  | some (.revocation b) => some b
  | some (.operation _) => none
  | some (.request _ _ _) => none
  | none => none

end Sys2Proof.Machine
end

