-- ==== Sys2Proof/Machine/Issue.lean ====
section
/-! DEFINITION. The thirteen issue commands: each takes place when the arbiter's grant at the present rank time (R60 to R67) is
of its kind, and then does what R68, R69 and the owners' rules give; at any other time there is no such grant and nothing
changes (R60, assumption 2). -/

namespace Sys2Proof.Machine

/-! ### Requests (R55, R68) -/

/-- The number of entries in the four queues. -/
def State.queuedTotal (s : State) : Nat := (allPorts.map fun p => (s.queues.look p).entries.length).sum

/-- Unanimity judged if entries have left a queue since `old` (R128). -/
def State.judgeRemoval (s old : State) : State := if s.queuedTotal = old.queuedTotal then s else s.judgeUnanimity

/-- The lease of a row-open issued now (R6). -/
def State.newLease (s : State) (p : Port) (row : Row) : Lease :=
  ⟨row, ⟨p, s.frameEpoch p⟩, s.time + s.prof.tLEASE, 0, false, false⟩

/-- The bank entry after a row-open: OPEN under a new lease, a revoked-from record naming the port removed (R6, R20). -/
def BankEntry.open (e : BankEntry) (l : Lease) : BankEntry :=
  ⟨.opened l, e.revokedFrom.filter fun r => r.owner.port != l.owner.port⟩

/-- The issue of a ROW_OPEN candidate (R6, R27, R39, R55). -/
def State.issueRowOpen (s : State) (aged : Bool) (p : Port) (e : Entry) (row : Row) : State :=
  let s := s.drive (.rowOpen e.bank row) (openRaises s.prof e.bank)
  let s := { s with holds := { s.holds with window := s.holds.window ++ [s.time] } }
  let s := s.modBank e.bank fun x => x.open (s.newLease p row)
  let s := ((s.removeFront p e.bank e.tag true).reply p e.tag .issued).evalFront p e.bank
  (s.recordRequest aged p).afterRequest e.bank true

/-- An auto-close column closes its bank, which may complete the drain (R8, R80). -/
def State.autoClose (s : State) (b : Bank) (autoClose : Bool) : State :=
  if autoClose then (s.closeBank b).completeDrain else s

/-- A FREE read-return space of the port becomes AWAITING (R151). -/
def State.takeSpace (s : State) (p : Port) (tag : Byte) : State :=
  match s.freeSpace p with
  | none => s
  | some i => s.setSpace p i (.awaiting tag (s.frameEpoch p))

/-- The issue of a COL_READ candidate (R8, R29, R30, R55, R151). -/
def State.issueColRead (s : State) (aged : Bool) (p : Port) (e : Entry) (column : Column) (autoClose : Bool) : State :=
  let s := s.drive (.readColumn e.bank column autoClose) (readRaises s.prof e.bank autoClose)
  let s := s.addBurst ⟨.read, p, s.frameEpoch p, e.tag, s.time + s.prof.readDelay, false⟩
  let s := s.autoClose e.bank autoClose
  let s := ((s.removeFront p e.bank e.tag false).takeSpace p e.tag).evalFront p e.bank
  (s.recordRequest aged p).afterRequest e.bank autoClose

/-- A HELD slot becomes ISSUED (R150). -/
def WriteSlot.issue : WriteSlot → WriteSlot
  | .free => .free
  | .held t e d => .issued t e d
  | .issued t e d => .issued t e d

/-- The issue of a COL_WRITE candidate (R8, R31, R32, R55, R150). -/
def State.issueColWrite (s : State) (aged : Bool) (p : Port) (e : Entry) (column : Column) (autoClose : Bool)
    (slot : Fin 8) : State :=
  let s := s.drive (.writeColumn e.bank column autoClose) (writeRaises s.prof e.bank autoClose)
  let s := s.addBurst ⟨.write, p, s.frameEpoch p, e.tag, s.time + s.prof.writeDelay, false⟩
  let s := s.autoClose e.bank autoClose
  let s := (s.removeFront p e.bank e.tag false).modMover p fun m => { m with slots := m.slots.modify slot WriteSlot.issue }
  let s := s.evalFront p e.bank
  (s.recordRequest aged p).afterRequest e.bank autoClose

/-- The issue of a ROW_CLOSE candidate (R7, R28, R55, R80). -/
def State.issueRowClose (s : State) (aged : Bool) (p : Port) (e : Entry) : State :=
  let s := s.drive (.close e.bank) (closeRaises s.prof e.bank)
  let s := (s.closeBank e.bank).completeDrain
  let s := ((s.removeFront p e.bank e.tag true).reply p e.tag .issued).evalFront p e.bank
  (s.recordRequest aged p).afterRequest e.bank true

/-- ROW_OPEN_ISSUED (R6). -/
def execRowOpenIssued (s : State) : Host.Outcome State Fault Refusal :=
  match s.grantedRequest with
  | none => .next s
  | some (aged, p, e) =>
    match e.request with
    | .rowOpen row => .next (s.issueRowOpen aged p e row)
    | .colRead _ _ _ => .next s
    | .colWrite _ _ _ _ => .next s
    | .rowClose => .next s

/-- COL_READ_ISSUED (R29). -/
def execColReadIssued (s : State) : Host.Outcome State Fault Refusal :=
  match s.grantedRequest with
  | none => .next s
  | some (aged, p, e) =>
    match e.request with
    | .colRead _ column autoClose => .next (s.issueColRead aged p e column autoClose)
    | .rowOpen _ => .next s
    | .colWrite _ _ _ _ => .next s
    | .rowClose => .next s

/-- COL_WRITE_ISSUED (R31). -/
def execColWriteIssued (s : State) : Host.Outcome State Fault Refusal :=
  match s.grantedRequest with
  | none => .next s
  | some (aged, p, e) =>
    match e.request with
    | .colWrite _ column autoClose slot => .next (s.issueColWrite aged p e column autoClose slot)
    | .rowOpen _ => .next s
    | .colRead _ _ _ => .next s
    | .rowClose => .next s

/-- ROW_CLOSE_ISSUED (R7). -/
def execRowCloseIssued (s : State) : Host.Outcome State Fault Refusal :=
  match s.grantedRequest with
  | none => .next s
  | some (aged, p, e) =>
    match e.request with
    | .rowClose => .next (s.issueRowClose aged p e)
    | .rowOpen _ => .next s
    | .colRead _ _ _ => .next s
    | .colWrite _ _ _ _ => .next s

/-! ### Revocation closes (R19) -/

/-- Whether a revocation close sets the revoked-from record (R19 step 2). -/
def RevokeReason.leavesRecord : RevokeReason → Bool
  | .expired => true
  | .drain => true
  | .portLost => false
  | .portLeft => false
  | .stop => true

/-- The bank entry after the close of a revocation (R19). -/
def BankEntry.closeRevoked (e : BankEntry) (r : Revocation) : BankEntry :=
  ⟨.closed, if r.reason.leavesRecord then some ⟨r.owner, r.row⟩ else e.revokedFrom⟩

/-- The table's report to a LEAVING session whose banks were asked for, once it owns none (R86, R142). -/
def State.reportLeave (s : State) (o : Owner) : State :=
  match (s.links.look o.port).session with
  | .leaving e tag true _ =>
    if e = o.epoch ∧ s.ownsAny o = false then s.modLink o.port fun l => { l with session := .leaving e tag true true } else s
  | .leaving _ _ false _ => s
  | .down => s
  | .linked => s
  | .joined _ => s

/-- The issue of the revocation close of a bank (R19, R28, R68). -/
def State.issueRevocation (s : State) (b : Bank) (r : Revocation) : State :=
  let old := s
  let s := s.drive (.close b) (closeRaises s.prof b)
  let s := if s.isCurrent r.owner.port r.owner.epoch then s.notice r.owner.port (.revoked b r.reason) else s
  let s := (s.modBank b fun e => e.closeRevoked r).completeDrain
  let s := (s.reportLeave r.owner).recordRevocation
  ((s.reevaluate b).judgeRemoval old).settle

/-- REVOCATION_CLOSE_ISSUED (R19). -/
def execRevocationCloseIssued (s : State) : Host.Outcome State Fault Refusal :=
  match s.grantedRevocation with
  | none => .next s
  | some b =>
    match (s.banks.look b).state with
    | .revoking r => .next (s.issueRevocation b r)
    | .closed => .next s
    | .opened _ => .next s

/-! ### Rank operations (R69) -/

/-- The refresh counted toward calibration (R99). -/
def State.countRefresh (s : State) : State :=
  if s.prof.cpr ≤ s.refresh.count + 1 then
    State.shortCalibrationDue { s with refresh := { s.refresh with count := 0 } }
  else { s with refresh := { s.refresh with count := s.refresh.count + 1 } }

/-- The Refresh Unit's part of a refresh issue, in the order of R95. -/
def State.refreshDone (s : State) (pullIn : Bool) : State :=
  let s := { s with refresh := { s.refresh with balance := s.refresh.balance - 1 } }
  let s := s.modRankCounters fun c =>
    { c with refreshes := c.refreshes + 1, pullIns := if pullIn then c.pullIns + 1 else c.pullIns }
  let s := s.countRefresh
  if !pullIn && s.refresh.balance == 0 then s.dropPurpose .refresh else s

/-- The issue of a refresh (R34, R95). -/
def State.issueRefresh (s : State) (pullIn : Bool) : State :=
  ((s.drive .refresh (refreshRaises s.prof)).refreshDone pullIn).recordOperation.settle

/-- REFRESH_ISSUED (R95). -/
def execRefreshIssued (s : State) : Host.Outcome State Fault Refusal :=
  match s.grantedOperation with
  | some (.refresh pullIn) => .next (s.issueRefresh pullIn)
  | some _ => .next s
  | none => .next s

/-- The issue of a short calibration (R35, R110). -/
def State.issueShortCalibration (s : State) : State :=
  let s := s.drive .shortCalibration (busRaises s.prof.tCS)
  let s := { s with calibration := { s.calibration with shortDue := false, busy := .short (s.time + s.prof.tCS) } }
  (s.dropPurpose .calibrate).recordOperation.settle

/-- SHORT_CALIBRATION_ISSUED (R110). -/
def execShortCalibrationIssued (s : State) : Host.Outcome State Fault Refusal :=
  if s.grantedOperation = some .shortCalibration then .next s.issueShortCalibration else .next s

/-- The issue of the long calibration (R35, R107). -/
def State.issueLongCalibration (s : State) : State :=
  let s := s.drive .longCalibration (busRaises s.prof.tCL)
  let s := { s with calibration := { s.calibration with busy := .long (s.time + s.prof.tCL) } }
  let s := match s.rank.state with
    | .bringUp path (.longCal _) => s.setRank (.bringUp path (.longCal true))
    | _ => s
  s.recordOperation.settle

/-- LONG_CALIBRATION_ISSUED (R107). -/
def execLongCalibrationIssued (s : State) : Host.Outcome State Fault Refusal :=
  if s.grantedOperation = some .longCalibration then .next s.issueLongCalibration else .next s

/-- The value a mode set carries: RD in the latency word, WD in the write word (R119, R158). -/
def Profile.modeValue (p : Profile) : ModeWord → Nat
  | .latency => p.readDelay
  | .write => p.writeDelay

/-- MODE_LOAD after the issue of a word (R119, R120): after the write word LONG_CAL on the full path, tMS on the retained. -/
def State.afterModeSet (s : State) (path : BringUpPath) : ModeWord → BringUpPhase
  | .latency => .modeLoad .writeNext
  | .write =>
    match path with
    | .full => .longCal false
    | .retained => .modeLoad (.settling (s.time + s.prof.tMS))

/-- The issue of a mode set (R35, R119, R120). -/
def State.issueModeSet (s : State) (w : ModeWord) : State :=
  let s := s.drive (.modeSet w (s.prof.modeValue w)) (busRaises s.prof.tMS)
  let s := match s.rank.state with
    | .bringUp path _ => s.setRank (.bringUp path (s.afterModeSet path w))
    | _ => s
  s.recordOperation.settle

/-- MODE_SET_ISSUED (R119). -/
def execModeSetIssued (s : State) : Host.Outcome State Fault Refusal :=
  match s.grantedOperation with
  | some (.modeSet w) => .next (s.issueModeSet w)
  | some _ => .next s
  | none => .next s

/-- The issue of a power-down entry (R36, R125). -/
def State.issuePowerDownEntry (s : State) : State :=
  let s := s.drive .powerDownEntry (busRaises 1)
  let s := s.become (.powerDown ⟨s.time + s.prof.tPDM, false, false⟩)
  let s := { s with rank := { s.rank with idle := .stopped } }
  s.recordOperation.judgeUnanimity.settle

/-- POWER_DOWN_ENTRY_ISSUED (R125). -/
def execPowerDownEntryIssued (s : State) : Host.Outcome State Fault Refusal :=
  if s.grantedOperation = some .powerDownEntry then .next s.issuePowerDownEntry else .next s

/-- The issue of a power-down exit (R36, R126): to ACTIVE, or with stop pending the STOP carried out (R121). -/
def State.issuePowerDownExit (s : State) : State :=
  let s := s.drive .powerDownExit (busRaises s.prof.tPDX)
  let s := if s.rank.stopPending then s.carryOutStop else (s.become .active).judgeUnanimity
  s.recordOperation.settle

/-- POWER_DOWN_EXIT_ISSUED (R126). -/
def execPowerDownExitIssued (s : State) : Host.Outcome State Fault Refusal :=
  if s.grantedOperation = some .powerDownExit then .next s.issuePowerDownExit else .next s

/-- The issue of a self-refresh entry (R36, R82, R123, R130): SLEEP and STOP leave the drain, sleep begun is no before the rank
changes (R128); with STOP served the rank goes OFFLINE retained, else to SLEEP with the interval timer STOPPED (R90). -/
def State.issueSelfRefreshEntry (s : State) : State :=
  let s := s.drive .selfRefreshEntry (busRaises 1)
  let served := s.drain.purposes
  let s := (s.dropPurpose .sleep).dropPurpose .stop
  let s := if served.sleep then s.setBegun false else s
  let s :=
    if served.stop then s.enterOffline true
    else
      let s := s.become (.sleep false)
      State.judgeUnanimity { s with refresh := { s.refresh with timer := none } }
  s.recordOperation.settle

/-- SELF_REFRESH_ENTRY_ISSUED (R130). -/
def execSelfRefreshEntryIssued (s : State) : Host.Outcome State Fault Refusal :=
  if s.grantedOperation = some .selfRefreshEntry then .next s.issueSelfRefreshEntry else .next s

/-- What every self-refresh exit does in the Calibration and Lock Unit and the Refresh Unit (R69, R108, R112, R90). -/
def State.exitReports (s : State) : State :=
  let s := { s with calibration := { s.calibration with lock := some (s.time + s.prof.tLOCK) } }
  let s := s.shortCalibrationDue
  { s with refresh := { s.refresh with balance := 0 } }

/-- The rank's part of a self-refresh exit: SLEEP to WAKING (R131), or EXIT_WAIT timed with the retained flag clear (R120). -/
def State.exitRank (s : State) : State :=
  match s.rank.state with
  | .sleep _ => s.become (.waking (s.time + s.prof.tSRX))
  | .bringUp path _ =>
    State.setRank { s with rank := { s.rank with retained := false } }
      (.bringUp path (.exitWait (some (s.time + s.prof.tSRX))))
  | _ => s

/-- The issue of a self-refresh exit (R36, R120, R131). -/
def State.issueSelfRefreshExit (s : State) : State :=
  let s := s.drive .selfRefreshExit (busRaises s.prof.tSRX)
  (s.exitRank.votesAwake.exitReports).recordOperation.settle

/-- SELF_REFRESH_EXIT_ISSUED (R131). -/
def execSelfRefreshExitIssued (s : State) : Host.Outcome State Fault Refusal :=
  if s.grantedOperation = some .selfRefreshExit then .next s.issueSelfRefreshExit else .next s

end Sys2Proof.Machine
end

