-- ==== Sys2Proof/Machine/Timed.lean ====
section
/-! DEFINITION. The commands that rank time brings about: a hold, a deadline, a timer, a burst or a phase reaches its instant.
Each has a test for its happening; where the test fails the happening does not take place and nothing changes (assumption 2). -/

namespace Sys2Proof.Machine

/-! ### Holds and the activation window -/

/-- A pending hold's instant has been reached (R24). -/
def State.holdDue (s : State) (id : HoldId) : Bool :=
  match s.holds.holds.hold id with
  | none => false
  | some t => s.reached t

/-- HOLD_MET (R24, R38): the hold becomes met and readiness is assessed. -/
def execHoldMet (id : HoldId) (s : State) : Host.Outcome State Fault Refusal :=
  if s.holdDue id then .next (s.setHold id none).settle else .next s

/-- The oldest window entry has reached its time + tWS (R39), tWS being that of the profile active now, also for an entry recorded
before a COMMIT (R163; assumption 26). -/
def State.windowDue (s : State) : Bool :=
  match s.holds.window with
  | [] => false
  | t :: _ => s.reached (t + s.prof.tWS)

/-- WINDOW_ENTRY_LEAVES (R39, R38). -/
def execWindowEntryLeaves (s : State) : Host.Outcome State Fault Refusal :=
  if s.windowDue then .next (State.settle { s with holds := { s.holds with window := s.holds.window.tail } }) else .next s

/-! ### Leases and the drain -/

/-- The lease of an OPEN bank, if it is OPEN. -/
def BankState.lease? : BankState → Option Lease
  | .closed => none
  | .opened l => some l
  | .revoking _ => none

/-- The warning point of an OPEN bank has been reached (R10). -/
def State.warningDue (s : State) (b : Bank) : Bool :=
  (s.banks.look b).state.lease?.any fun l => l.warningDue s.prof.tWARN s.time

/-- The deadline of an OPEN bank has been reached (R15). -/
def State.expiryDue (s : State) (b : Bank) : Bool :=
  (s.banks.look b).state.lease?.any fun l => s.reached l.deadline

/-- LEASE_WARNING (R10). -/
def execLeaseWarning (b : Bank) (s : State) : Host.Outcome State Fault Refusal :=
  match (s.banks.look b).state with
  | .opened l => if s.warningDue b then .next (s.sendWarning b l) else .next s
  | .closed => .next s
  | .revoking _ => .next s

/-- The expiry of a lease: the revocation and its record, then the entries for the bank evaluated (R15). -/
def State.expireLease (s : State) (b : Bank) (l : Lease) : State :=
  let old := s
  let s := (s.revoke b .expired).handFault .leaseExpired (some l.owner.port) (some b) (.extensions l.extensions)
  ((s.reevaluate b).judgeRemoval old).settle

/-- LEASE_EXPIRY (R15). -/
def execLeaseExpiry (b : Bank) (s : State) : Host.Outcome State Fault Refusal :=
  match (s.banks.look b).state with
  | .opened l => if s.expiryDue b then .next (s.expireLease b l) else .next s
  | .closed => .next s
  | .revoking _ => .next s

/-- The grace deadline has been reached (R79). -/
def State.graceDue (s : State) : Bool :=
  match s.drain.phase with
  | .grace t => s.reached t
  | .none => false
  | .closing => false
  | .service => false

/-- GRACE_END (R79). -/
def execGraceEnd (s : State) : Host.Outcome State Fault Refusal :=
  if s.graceDue then .next (s.endGrace.judgeRemoval s).settle else .next s

/-! ### The refresh interval -/

/-- The interval timer has reached its expiry time (R91). -/
def State.intervalDue (s : State) : Bool :=
  match s.refresh.timer with
  | none => false
  | some t => s.reached t

/-- Step 1 of R91: the balance rises, or a missed refresh is counted and recorded. -/
def State.owe (s : State) : State :=
  if s.refresh.balance < s.prof.ppm then { s with refresh := { s.refresh with balance := s.refresh.balance + 1 } }
  else
    let s := s.modRankCounters fun c => { c with missed := c.missed + 1 }
    s.handFault .refreshOverrun none none (.missed s.fault.rank.missed)

/-- Step 3 of R91: R92 and R93 judged, `marked` when this expiry took the balance to PPM; a refresh wanted is a cause of exit
(R92, R126). -/
def State.askRefresh (s : State) (marked : Bool) : State :=
  let s := if marked then s.modRankCounters fun c => { c with urgents := c.urgents + 1 } else s
  let wanted := decide ((s.prof.lt : Int) ≤ s.refresh.balance)
  let s := if wanted || marked then s.addPurpose .refresh marked else s
  if wanted then s.wantExit else s

/-- The expiry of the interval timer (R91). -/
def State.expireInterval (s : State) : State :=
  let marked := decide (s.refresh.balance + 1 = s.prof.ppm)
  let s' := s.owe
  let s' := { s' with refresh := { s'.refresh with timer := some (s'.time + s'.reload) } }
  ((s'.askRefresh marked).judgeRemoval s).settle

/-- INTERVAL_TIMER_EXPIRY (R91). -/
def execIntervalTimerExpiry (s : State) : Host.Outcome State Fault Refusal :=
  if s.intervalDue then .next s.expireInterval else .next s

/-! ### Aging -/

/-- An entry has waited tAGE and is not yet aged (R56). -/
def State.agingDue (s : State) (e : Entry) : Bool := !e.aged && s.reached (e.accepted + s.prof.tAGE)

/-- The first entry with the tag becomes aged. -/
def ageTag (tag : Byte) : List Entry → List Entry
  | [] => []
  | e :: rest => if e.tag = tag then { e with aged := true } :: rest else e :: ageTag tag rest

/-- ENTRY_AGED (R56) of the entry of a port's queue with the tag. -/
def execEntryAged (p : Port) (tag : Byte) (s : State) : Host.Outcome State Fault Refusal :=
  match (s.queues.look p).entries.find? fun e => e.tag == tag with
  | none => .next s
  | some e =>
    if s.agingDue e then .next (s.modQueue p fun q => { q with entries := ageTag tag q.entries }) else .next s

/-! ### Bursts (R33, R150, R152) -/

/-- The burst whose start comes next. -/
def State.nextStart (s : State) : Option Burst := s.holds.bursts.find? fun b => !b.started

/-- The start of the next burst has been reached and it goes in the direction asked (R33). -/
def State.startDue (s : State) (d : Direction) : Bool :=
  s.nextStart.any fun b => decide (b.direction = d) && s.reached b.start

/-- The end of the oldest burst has been reached and it goes in the direction asked (R33). -/
def State.endDue (s : State) (d : Direction) : Bool :=
  s.holds.bursts.head?.any fun b => decide (b.direction = d) && s.reached b.finish

/-- The first burst not yet started is marked started. -/
def markStarted : List Burst → List Burst
  | [] => []
  | b :: rest => if b.started then b :: markStarted rest else { b with started := true } :: rest

/-- Whether a slot is ISSUED for a write of a tag and epoch. -/
def WriteSlot.isFor (tag epoch : Byte) : WriteSlot → Bool
  | .free => false
  | .held _ _ _ => false
  | .issued t e _ => t == tag && e == epoch

/-- Whether a space is AWAITING the data of a tag and epoch (R152). -/
def ReadSpace.isFor (tag epoch : Byte) : ReadSpace → Bool
  | .free => false
  | .awaiting t e => t == tag && e == epoch
  | .buffered _ _ _ => false

/-- The data of a slot that holds some. -/
def WriteSlot.data? : WriteSlot → Option Block
  | .free => none
  | .held _ _ d => some d
  | .issued _ _ d => some d

/-- The slot a WRITE burst takes its data from (R150). -/
def State.burstSlot (s : State) (b : Burst) : Option (Fin 8) :=
  allSlots.find? fun i => ((s.mover.ports.look b.port).slots.look i).isFor b.tag b.epoch

/-- The space a READ burst delivers into (R152). -/
def State.burstSpace (s : State) (b : Burst) : Option (Fin 4) :=
  allSpaces.find? fun i => ((s.mover.ports.look b.port).spaces.look i).isFor b.tag b.epoch

/-- What the data bus carries when a burst starts: the bytes of the slot of a WRITE, or the beats of a READ taken in (R33). -/
def State.burstBus (s : State) (b : Burst) : DataBus :=
  match b.direction with
  | .read => .receiving
  | .write =>
    match (s.burstSlot b).bind fun i => ((s.mover.ports.look b.port).slots.look i).data? with
    | none => .quiet
    | some d => .driving d b.start

/-- A burst starts (R33). -/
def State.startBurst (s : State) (b : Burst) : State :=
  { s with
    holds := { s.holds with bursts := markStarted s.holds.bursts }
    mover := { s.mover with dataBus := s.burstBus b } }

/-- Beat k of a burst carries bytes 8k to 8k + 7 of the block (R150, R152). -/
def beat (d : Block) (k : Nat) : List Byte := (d.toList.drop (8 * k)).take 8

/-- The beats the Data Mover drives in the ck of a rank time: two in each of the 4 ck of a WRITE burst, beats 2j and 2j + 1 in the
ck start + j (R150); none in any other ck. -/
def DataBus.beats (bus : DataBus) (now : Nat) : List (List Byte) :=
  match bus with
  | .quiet => []
  | .receiving => []
  | .driving d start =>
    if start ≤ now ∧ now < start + 4 then [beat d (2 * (now - start)), beat d (2 * (now - start) + 1)] else []

/-- The beats the rank's data bus carries from the part in the present ck (R150). -/
def State.beatsDriven (s : State) : List (List Byte) := s.mover.dataBus.beats s.time

/-- WRITE_BURST_START (R150). -/
def execWriteBurstStart (s : State) : Host.Outcome State Fault Refusal :=
  match s.nextStart with
  | none => .next s
  | some b => if s.startDue .write then .next (s.startBurst b) else .next s

/-- READ_BURST_START (R33). -/
def execReadBurstStart (s : State) : Host.Outcome State Fault Refusal :=
  match s.nextStart with
  | none => .next s
  | some b => if s.startDue .read then .next (s.startBurst b) else .next s

/-- The oldest burst leaves the record (R33); the data bus falls quiet unless another burst has started. -/
def State.endBurst (s : State) : State :=
  let rest := s.holds.bursts.tail
  { s with
    holds := { s.holds with bursts := rest }
    mover := { s.mover with dataBus := if rest.any Burst.started then s.mover.dataBus else .quiet } }

/-- A tag leaves the outstanding set (R46). -/
def State.releaseTag (s : State) (p : Port) (tag : Byte) : State :=
  s.modQueue p fun q => { q with outstanding := q.outstanding.erase tag }

/-- The data end of a write (R150): its slot FREE, and WRITTEN with the tag released if its session is current. -/
def State.finishWrite (s : State) (b : Burst) : State :=
  let i? := s.burstSlot b
  let s := s.endBurst
  let s := match i? with
    | none => s
    | some i => s.setSlot b.port i .free
  if s.isCurrent b.port b.epoch then (s.reply b.port b.tag .written).releaseTag b.port b.tag else s

/-- WRITE_DATA_END (R150). -/
def execWriteDataEnd (s : State) : Host.Outcome State Fault Refusal :=
  match s.holds.bursts.head? with
  | none => .next s
  | some b => if s.endDue .write then .next (s.finishWrite b).settle else .next s

/-- The arrival of a read's data (R152): BUFFERED with DATA queued and the tag released if its session is current, else
discarded and the space FREE. -/
def State.finishRead (s : State) (b : Burst) (data : Block) : State :=
  let i? := s.burstSpace b
  let s := s.endBurst
  match i? with
  | none => s
  | some i =>
    if s.isCurrent b.port b.epoch then
      ((s.setSpace b.port i (.buffered b.tag b.epoch data)).reply b.port b.tag (.data i data)).releaseTag b.port b.tag
    else s.setSpace b.port i .free

/-- READ_DATA_ARRIVAL (R152). -/
def execReadDataArrival (data : Block) (s : State) : Host.Outcome State Fault Refusal :=
  match s.holds.bursts.head? with
  | none => .next s
  | some b => if s.endDue .read then .next (s.finishRead b data).settle else .next s

/-! ### Calibration and lock (R107, R110, R112) -/

/-- The long calibration's end time has been reached (R107). -/
def State.longBusyDue (s : State) : Bool :=
  match s.calibration.busy with
  | .long t => s.reached t
  | .none => false
  | .short _ => false

/-- The short calibration's end time has been reached (R110). -/
def State.shortBusyDue (s : State) : Bool :=
  match s.calibration.busy with
  | .short t => s.reached t
  | .none => false
  | .long _ => false

/-- The lock window's end time has been reached (R112). -/
def State.lockDue (s : State) : Bool :=
  match s.calibration.lock with
  | none => false
  | some t => s.reached t

/-- Calibration busy becomes NONE. -/
def State.notBusy (s : State) : State := { s with calibration := { s.calibration with busy := .none } }

/-- The rank is in the LONG_CAL phase of a bring-up (R107). -/
def RankState.inLongCal : RankState → Bool
  | .bringUp _ (.longCal _) => true
  | _ => false

/-- LONG_CAL_BUSY_END (R107): in LONG_CAL the bring-up completes (R119). -/
def execLongCalBusyEnd (s : State) : Host.Outcome State Fault Refusal :=
  if s.longBusyDue then
    .next (if s.rank.state.inLongCal then s.notBusy.becomeActive.settle else s.notBusy.settle)
  else .next s

/-- SHORT_CAL_BUSY_END (R110, R111). -/
def execShortCalBusyEnd (s : State) : Host.Outcome State Fault Refusal :=
  if s.shortBusyDue then .next s.notBusy.settle else .next s

/-- LOCK_END (R112). -/
def execLockEnd (s : State) : Host.Outcome State Fault Refusal :=
  if s.lockDue then .next (State.settle { s with calibration := { s.calibration with lock := none } }) else .next s

/-! ### Bring-up phases, idle timer, residency and wake (R119, R120, R124, R126, R131) -/

/-- RESET_HOLD's end time has been reached (R119). -/
def State.resetHoldDue (s : State) : Bool :=
  match s.rank.state with
  | .bringUp _ (.resetHold t) => s.reached t
  | _ => false

/-- RESET_HOLD_END (R119). -/
def execResetHoldEnd (s : State) : Host.Outcome State Fault Refusal :=
  match s.rank.state with
  | .bringUp path (.resetHold _) =>
    if s.resetHoldDue then .next (s.setRank (.bringUp path (.clockSettle (s.time + s.prof.tSET)))) else .next s
  | _ => .next s

/-- CLOCK_SETTLE's end time has been reached (R119, R120). -/
def State.clockSettleDue (s : State) : Bool :=
  match s.rank.state with
  | .bringUp _ (.clockSettle t) => s.reached t
  | _ => false

/-- The phase after CLOCK_SETTLE: MODE_LOAD on the full path (R119), EXIT_WAIT on the retained path (R120). -/
def BringUpPath.afterSettle : BringUpPath → BringUpPhase
  | .full => .modeLoad .latencyNext
  | .retained => .exitWait none

/-- CLOCK_SETTLE_END (R119, R120). -/
def execClockSettleEnd (s : State) : Host.Outcome State Fault Refusal :=
  match s.rank.state with
  | .bringUp path (.clockSettle _) =>
    if s.clockSettleDue then .next (s.setRank (.bringUp path path.afterSettle)) else .next s
  | _ => .next s

/-- EXIT_WAIT's end time, set at the exit, has been reached (R120). -/
def State.exitWaitDue (s : State) : Bool :=
  match s.rank.state with
  | .bringUp _ (.exitWait (some t)) => s.reached t
  | _ => false

/-- EXIT_WAIT_END (R120). -/
def execExitWaitEnd (s : State) : Host.Outcome State Fault Refusal :=
  match s.rank.state with
  | .bringUp path (.exitWait _) =>
    if s.exitWaitDue then .next (s.setRank (.bringUp path (.modeLoad .latencyNext))) else .next s
  | _ => .next s

/-- The retained path's MODE_LOAD end time has been reached (R120). -/
def State.modeLoadDue (s : State) : Bool :=
  match s.rank.state with
  | .bringUp _ (.modeLoad (.settling t)) => s.reached t
  | _ => false

/-- MODE_LOAD_END (R120). -/
def execModeLoadEnd (s : State) : Host.Outcome State Fault Refusal :=
  if s.modeLoadDue then .next s.becomeActive.settle else .next s

/-- The idle timer has reached its expiry time (R124). -/
def State.idleDue (s : State) : Bool :=
  match s.rank.idle with
  | .running t => s.reached t
  | .stopped => false
  | .expired => false

/-- IDLE_TIMER_EXPIRY (R124). -/
def execIdleTimerExpiry (s : State) : Host.Outcome State Fault Refusal :=
  if s.idleDue then .next { s with rank := { s.rank with idle := .expired } } else .next s

/-- The residency end has been reached and not yet been taken (R126). -/
def State.residencyDue (s : State) : Bool :=
  match s.rank.state with
  | .powerDown r => !r.passed && s.reached r.residencyEnd
  | _ => false

/-- RESIDENCY_END: sets the model's own mark that it has been taken (DEDUCED, assumption 8), and nothing else. R126 gives the
happening no effect of its own: an exit wanted is offered once the residency end has been reached, marked or not. -/
def execResidencyEnd (s : State) : Host.Outcome State Fault Refusal :=
  match s.rank.state with
  | .powerDown r => if s.residencyDue then .next (s.setRank (.powerDown { r with passed := true })) else .next s
  | _ => .next s

/-- tSRX after the exit from SLEEP has been reached (R131). -/
def State.wakeDue (s : State) : Bool :=
  match s.rank.state with
  | .waking t => s.reached t
  | _ => false

/-- The wake end (R131): ACTIVE, and with stop pending the STOP carried out at once (R122). -/
def State.endWake (s : State) : State :=
  let s := s.becomeActive
  (if s.rank.stopPending then s.carryOutStop else s).settle

/-- WAKE_END (R131). -/
def execWakeEnd (s : State) : Host.Outcome State Fault Refusal :=
  if s.wakeDue then .next s.endWake else .next s

end Sys2Proof.Machine
end

