-- ==== Sys2Proof/Machine/Links.lean ====
section
/-! DEFINITION. The commands of the port links: lane changes, discarded frames, sessions, and the handing of frames to the link
(chapters 9 and 13). -/

namespace Sys2Proof.Machine

/-- LINK_UP (R134): DOWN becomes LINKED; no effect in any other state. -/
def execLinkUp (p : Port) (s : State) : Host.Outcome State Fault Refusal :=
  if (s.links.look p).session = .down then
    .next (s.modLink p fun l =>
      { l with session := .linked, expected := 0, resync := false, outSeq := 0, outbound := [] })
  else .next s

/-- LINK_DOWN (R134): a current session ends as lost (R143); LINKED goes DOWN with its outbound queue discarded; no effect in
DOWN. -/
def execLinkDown (p : Port) (s : State) : Host.Outcome State Fault Refusal :=
  match (s.links.look p).session with
  | .down => .next s
  | .linked => .next ((s.discardOutbound p).modLink p SessionEnd.lost.link).settle
  | .joined e => .next (s.endSession p e .lost).settle
  | .leaving e _ _ _ => .next (s.endSession p e .lost).settle

/-- FRAME_CRC_DISCARD (R135, R173): a frame that is not whole is counted and recorded, nothing in it trusted. A frame arrives
only while the lane is up (R134), and a whole frame is not this happening. -/
def execFrameCrcDiscard (p : Port) (bytes : List Byte) (s : State) : Host.Outcome State Fault Refusal :=
  if (s.links.look p).session.laneUp && !frameSound bytes then .next (s.discardFrame p .crc) else .next s

/-- FRAME_OUT_OF_SEQUENCE (R136). -/
def execFrameOutOfSequence (p : Port) (seq : Byte) (s : State) : Host.Outcome State Fault Refusal :=
  if (s.links.look p).session.laneUp && seq != (s.links.look p).expected then .next (s.outOfSequence p) else .next s

/-- A JOIN that has passed the session checks (R139, R140). -/
def State.takeJoin (s : State) (p : Port) (tag revision : Byte) : State :=
  if revision ≠ 1#8 then s.reply p tag .joinRefused
  else
    match (s.links.look p).session.epoch? with
    | none => (s.openSession p tag).settle
    | some e => ((s.endSession p e .rejoin).openSession p tag).settle

/-- JOIN (R139, R140). -/
def execJoin (p : Port) (h : Header) (revision : Byte) (s : State) : Host.Outcome State Fault Refusal :=
  .next (s.receive p h true fun s => s.takeJoin p h.tag revision)

/-- A LEAVE that has passed the session checks (R141): JOINED becomes LEAVING, with the LEAVE's tag kept for the BYE that answers
it (R138); a second LEAVE has no further effect, so the BYE keeps the first one's tag (assumption 25). -/
def State.takeLeave (s : State) (p : Port) (tag : Byte) : State :=
  match (s.links.look p).session with
  | .joined e => s.modLink p fun l => { l with session := .leaving e tag false false }
  | .leaving _ _ _ _ => s
  | .linked => s
  | .down => s

/-- LEAVE (R141). -/
def execLeave (p : Port) (h : Header) (s : State) : Host.Outcome State Fault Refusal :=
  .next (s.receive p h false fun s => s.takeLeave p h.tag)

/-- The length check of R173 with the kind check of R137: whether a kind code and a frame length make a request frame. -/
def requestFrame (kind : Byte) (length : Nat) : Bool :=
  match RequestKind.ofCode kind with
  | none => false
  | some k => k.length == length

/-- BAD_KIND_FRAME (R137, R173): a sound frame of at least 6 bytes whose kind is no request kind, or whose length is not its
kind's; it passes checks 1 and 2 of R137 first. A frame that check 3 would pass is not this happening. -/
def execBadKindFrame (p : Port) (h : Header) (kind : Byte) (length : Nat) (s : State) : Host.Outcome State Fault Refusal :=
  if requestFrame kind length || decide (length < 6) then .next s
  else .next (s.receive p h (kind == RequestKind.join.code) fun s => s.refuse p h.tag .badKind)

/-- The read-return space a frame empties as it leaves the outbound queue (R153). -/
def Message.space? : Message → Option (Fin 4)
  | .data i _ => some i
  | _ => none

/-- The head frame of a port's outbound queue taken by the link (R145, R153, R174). -/
def State.handHead (s : State) (p : Port) (f : OutFrame) : State :=
  let s := s.modLink p fun l =>
    { l with outbound := l.outbound.tail, outSeq := l.outSeq + 1, lastFrame := some (f.bytes l.outSeq) }
  match f.message.space? with
  | none => s
  | some i => s.setSpace p i .free

/-- HANDED_TO_LINK (R145): no effect on an empty queue, and a frame passes only while the lane is up (R133). -/
def execHandedToLink (p : Port) (s : State) : Host.Outcome State Fault Refusal :=
  match (s.links.look p).session.laneUp, (s.links.look p).outbound with
  | true, f :: _ => .next (s.handHead p f).settle
  | true, [] => .next s
  | false, _ => .next s

/-- The port is LEAVING, has not asked for its revocations, and is ready to leave (R141): its epoch and its LEAVE's tag. -/
def State.leaveReady (s : State) (p : Port) : Option (Byte × Byte) :=
  match (s.links.look p).session with
  | .leaving e tag false _ => if s.nothingInHand p then some (e, tag) else none
  | .leaving _ _ true _ => none
  | .joined _ => none
  | .linked => none
  | .down => none

/-- The PORT_LEFT revocations asked for, once per leave, and the report at once where there is no bank to close (R86, R141). -/
def State.askLeave (s : State) (p : Port) (e tag : Byte) : State :=
  let old := s
  let s := s.modLink p fun l => { l with session := .leaving e tag true false }
  let s := allBanks.foldl (State.revokeOwned ⟨p, e⟩ .portLeft) s
  ((s.reportLeave ⟨p, e⟩).judgeRemoval old).settle

/-- READY_TO_LEAVE (R141, R86). -/
def execReadyToLeave (p : Port) (s : State) : Host.Outcome State Fault Refusal :=
  match s.leaveReady p with
  | some (e, tag) => .next (s.askLeave p e tag)
  | none => .next s

/-- The leave report is yes and the outbound queue empty (R142): the session's epoch and its LEAVE's tag. -/
def State.leaveDone (s : State) (p : Port) : Option (Byte × Byte) :=
  match (s.links.look p).session with
  | .leaving e tag _ true => if (s.links.look p).outbound.isEmpty then some (e, tag) else none
  | .leaving _ _ _ false => none
  | .joined _ => none
  | .linked => none
  | .down => none

/-- LEAVE_COMPLETE (R142): the session ends as left, the port is LINKED, BYE carries the ended epoch (Table 13-1 note 2) and the
tag of the LEAVE it answers (R138, Table 13-1; of two LEAVEs the first's, assumption 25). -/
def execLeaveComplete (p : Port) (s : State) : Host.Outcome State Fault Refusal :=
  match s.leaveDone p with
  | some (e, tag) => .next (((s.endSession p e .left).send p ⟨e, tag, .bye⟩).settle)
  | none => .next s

end Sys2Proof.Machine
end

