-- ==== Sys2Proof/Machine/Requests.lean ====
section
/-! DEFINITION. The requests a master sends beside JOIN and LEAVE: the immediate kinds and the queued kinds, and the THOT line
(chapters 1, 3, 6, 8 and 10). -/

namespace Sys2Proof.Machine

/-! ### LEASE_EXTEND (R13) -/

/-- The first check of R13 that fails, or the bank and its lease. -/
def State.extendCheck (s : State) (p : Port) (bank : Byte) : Except DenialReason (Bank × Lease) :=
  match bankOf bank with
  | none => .error .notOwner
  | some b =>
    match (s.banks.look b).state with
    | .closed => .error .notOwner
    | .revoking _ => .error .notOwner
    | .opened l =>
      if l.owner ≠ ⟨p, s.frameEpoch p⟩ then .error .notOwner
      else if l.contended then .error .contended
      else if s.prof.maxExtensions ≤ l.extensions then .error .limit
      else .ok (b, l)

/-- A lease extended now (R13). -/
def State.extended (s : State) (l : Lease) : Lease :=
  { l with deadline := s.time + s.prof.tLEASE, extensions := l.extensions + 1, warned := false }

/-- LEASE_EXTEND taken (R13): EXTENDED, or EXTEND_DENIED carrying the bank as received (R173). -/
def State.takeExtend (s : State) (p : Port) (tag bank : Byte) : State :=
  match s.extendCheck p bank with
  | .error r => s.reply p tag (.extendDenied bank r)
  | .ok (b, l) =>
    (s.modBank b fun e => { e with state := .opened (s.extended l) }).reply p tag
      (.extended b s.prof.tLEASE (s.prof.maxExtensions - (l.extensions + 1)))

/-- LEASE_EXTEND (R13). -/
def execLeaseExtend (p : Port) (h : Header) (bank : Byte) (s : State) : Host.Outcome State Fault Refusal :=
  .next (s.receive p h false fun s => s.takeExtend p h.tag bank)

/-! ### CANCEL (R57) -/

/-- The queue without the entry that carries a tag, and the tag out of the outstanding set (R57). -/
def State.removeTag (s : State) (p : Port) (tag : Byte) : State :=
  s.modQueue p fun q =>
    { entries := q.entries.eraseP fun e => e.tag == tag, outstanding := q.outstanding.erase tag }

/-- CANCEL taken (R57): the target removed with CANCELLED, its slot freed, and the next entry for the bank evaluated where the
target stood at its front; else CANCEL_MISS. -/
def State.takeCancel (s : State) (p : Port) (tag target : Byte) : State :=
  match (s.queues.look p).entries.find? fun e => e.tag == target with
  | none => s.reply p tag (.cancelMiss target)
  | some e =>
    let wasFront := s.isFront p e
    let s := ((s.removeTag p target).reply p target .cancelled).freeEntrySlot p e
    (if wasFront then s.evalFront p e.bank else s).judgeUnanimity.settle

/-- CANCEL (R57). -/
def execCancel (p : Port) (h : Header) (target : Byte) (s : State) : Host.Outcome State Fault Refusal :=
  .next (s.receive p h false fun s => s.takeCancel p h.tag target)

/-! ### SLEEP_VOTE and WAKE (R127) -/

/-- SLEEP_VOTE taken (R127): answered, the vote VOTED, a HOT rank's exit judged (R126), unanimity judged after a change. -/
def State.takeSleepVote (s : State) (p : Port) (tag : Byte) : State :=
  let changed := s.rank.votes.look p != some .voted
  let s := ((s.setVote p (some .voted)).reply p tag .voteNoted).judgeHotExit
  (if changed then s.judgeUnanimity else s).settle

/-- SLEEP_VOTE (R127). -/
def execSleepVote (p : Port) (h : Header) (s : State) : Host.Outcome State Fault Refusal :=
  .next (s.receive p h false fun s => s.takeSleepVote p h.tag)

/-- WAKE taken (R127): answered, the vote AWAKE, after a change a HOT rank's exit (R126) and unanimity judged; a cause of wake
in SLEEP (R131). -/
def State.takeWake (s : State) (p : Port) (tag : Byte) : State :=
  let changed := s.rank.votes.look p != some .awake
  let s := (s.setVote p (some .awake)).reply p tag .wakeNoted
  (if changed then s.judgeHotExit.judgeUnanimity else s).wantWake.settle

/-- WAKE (R127). -/
def execWake (p : Port) (h : Header) (s : State) : Host.Outcome State Fault Refusal :=
  .next (s.receive p h false fun s => s.takeWake p h.tag)

/-! ### Temperature (R100, R101) -/

/-- TEMP_REPORT taken (R100): recorded, evaluated (R102), answered with the state after. -/
def State.takeReport (s : State) (p : Port) (tag : Byte) (t : BitVec 16) : State :=
  let x := clampTemperature t
  let s := { s with refresh := { s.refresh with table := s.refresh.table.put p (some x) } }
  (s.evalThermal (.report p) fun s => s.reply p tag (.tempNoted x s.refresh.thermal)).settle

/-- TEMP_REPORT (R100). -/
def execTempReport (p : Port) (h : Header) (t : BitVec 16) (s : State) : Host.Outcome State Fault Refusal :=
  .next (s.receive p h false fun s => s.takeReport p h.tag t)

/-- THOT_ASSERTED (R101). -/
def execThotAsserted (s : State) : Host.Outcome State Fault Refusal := .next (s.takeThot true).settle

/-- THOT_DEASSERTED (R101). -/
def execThotDeasserted (s : State) : Host.Outcome State Fault Refusal := .next (s.takeThot false).settle

/-! ### The queued kinds (R44, R45) -/

/-- A queued-kind frame: the session checks, then the arrival (R137, R138, R44). -/
def State.queued (s : State) (p : Port) (h : Header) (bank : Byte) (a : Arrival) : State :=
  s.receive p h false fun s => (s.arrive p h.tag bank a).settle

/-- ROW_OPEN (R45). -/
def execRowOpen (p : Port) (h : Header) (bank : Byte) (row : Row) (s : State) : Host.Outcome State Fault Refusal :=
  .next (s.queued p h bank (.rowOpen row))

/-- COL_READ (R45). -/
def execColRead (p : Port) (h : Header) (bank : Byte) (row : Row) (column : Column) (flags : Byte) (s : State) :
    Host.Outcome State Fault Refusal :=
  .next (s.queued p h bank (.colRead row column (autoCloseOf flags)))

/-- COL_WRITE (R45, R148). -/
def execColWrite (p : Port) (h : Header) (bank : Byte) (row : Row) (column : Column) (flags : Byte) (data : Block)
    (s : State) : Host.Outcome State Fault Refusal :=
  .next (s.queued p h bank (.colWrite row column (autoCloseOf flags) data))

/-- ROW_CLOSE (R45). -/
def execRowClose (p : Port) (h : Header) (bank : Byte) (s : State) : Host.Outcome State Fault Refusal :=
  .next (s.queued p h bank .rowClose)

end Sys2Proof.Machine
end

