-- ==== Sys2Proof/Machine/Registers.lean ====
section
/-! DEFINITION. The management register window as it reads (R175, R176, Tables 13-6 to 13-8): every register with its address,
its size and its value in a state, and what a read of one byte returns. -/

namespace Sys2Proof.Machine

/-- A register of the window: its lowest address, its size in bytes, its value in a state. -/
structure Register where
  base  : Nat
  size  : Nat
  value : State → Nat

/-- One byte of a value, the least significant at index 0 (R175). -/
def byteOf (v i : Nat) : Byte := BitVec.ofNat 8 (v >>> (8 * i))

/-- A register's bytes, the least significant first (R175). -/
def Register.bytes (r : Register) (s : State) : List Byte := (List.range r.size).map (byteOf (r.value s))

/-- A flag as a number: yes 1, no 0. DESIGN CHOICE (assumption 29): Tables 13-6 to 13-8 give the yes/no fields no code, and R175's
order of the values listed ("yes, no" in Tables 3-1 and 5-1) would code them the other way. -/
def bit (b : Bool) : Nat := if b then 1 else 0

/-- ck remaining to an instant. -/
def State.remaining (s : State) (t : Nat) : Nat := t - s.time

/-- Several registers in a row, each of the same size, one per item. -/
def registerRow {α : Type} (base size : Nat) (l : List α) (value : α → State → Nat) : List Register :=
  l.zipIdx.map fun x => ⟨base + size * x.2, size, value x.1⟩

/-! ### Codes of the views (R175, Table 13-5) -/

/-- Command status codes. -/
def CommandStatus.code : CommandStatus → Nat
  | .ok => 0
  | .notOffline => 1
  | .noProfile => 2
  | .notRunning => 3

/-- Fault command status codes, in the same numbering. -/
def PopStatus.code : PopStatus → Nat
  | .ok => 0
  | .listEmpty => 4

/-- Commit status codes. -/
def CommitStatus.code : CommitStatus → Nat
  | .none => 0
  | .commitOk => 1
  | .commitRejected _ => 2
  | .notOffline => 3

/-- The commit check number, 0 unless COMMIT_REJECTED. -/
def CommitStatus.check : CommitStatus → Nat
  | .none => 0
  | .commitOk => 0
  | .commitRejected n => n
  | .notOffline => 0

/-- The bring-up phase code, 00H without one (Table 13-7). -/
def RankState.phaseCode : RankState → Nat
  | .bringUp _ (.resetHold _) => 1
  | .bringUp _ (.clockSettle _) => 2
  | .bringUp _ (.exitWait _) => 3
  | .bringUp _ (.modeLoad _) => 4
  | .bringUp _ (.longCal _) => 5
  | _ => 0

/-- The phase end time, where one is set (R132). -/
def RankState.phaseEnd : RankState → Option Nat
  | .bringUp _ (.resetHold t) => some t
  | .bringUp _ (.clockSettle t) => some t
  | .bringUp _ (.exitWait t) => t
  | .bringUp _ (.modeLoad (.settling t)) => some t
  | _ => none

/-- Exit wanted, in POWERDOWN. -/
def RankState.exitWanted : RankState → Bool
  | .powerDown r => r.exitWanted
  | _ => false

/-- Wake wanted, in SLEEP. -/
def RankState.wakeWanted : RankState → Bool
  | .sleep w => w
  | _ => false

/-- The residency end, in POWERDOWN. -/
def RankState.residencyEnd : RankState → Option Nat
  | .powerDown r => some r.residencyEnd
  | _ => none

/-- The idle timer's code. -/
def IdleTimer.code : IdleTimer → Nat
  | .stopped => 0
  | .running _ => 1
  | .expired => 2

/-- The idle timer's expiry time while it is RUNNING. -/
def IdleTimer.expiry : IdleTimer → Option Nat
  | .stopped => none
  | .running t => some t
  | .expired => none

/-- A vote's code, FFH without a current session (Table 13-7). -/
def voteCode : Option Vote → Nat
  | some .awake => 0
  | some .voted => 1
  | none => 0xFF

/-- The last grant's class, 0 for none (Table 13-7). -/
def LastGrant.classCode : LastGrant → Nat
  | .none => 0
  | .rankOperation => 1
  | .revocationClose => 2
  | .agedRequest _ => 3
  | .request _ => 4

/-- The last grant's port, absent read as 0. -/
def LastGrant.port : LastGrant → Nat
  | .none => 0
  | .rankOperation => 0
  | .revocationClose => 0
  | .agedRequest p => p.val
  | .request p => p.val

/-- The drain phase's code. -/
def DrainPhase.code : DrainPhase → Nat
  | .none => 0
  | .grace _ => 1
  | .closing => 2
  | .service => 3

/-- The grace deadline, in GRACE. -/
def DrainPhase.deadline : DrainPhase → Option Nat
  | .grace t => some t
  | .none => Option.none
  | .closing => Option.none
  | .service => Option.none

/-- Calibration busy's code. -/
def CalBusy.code : CalBusy → Nat
  | .none => 0
  | .short _ => 1
  | .long _ => 2

/-- The busy end. -/
def CalBusy.finish : CalBusy → Option Nat
  | .none => Option.none
  | .short t => some t
  | .long t => some t

/-- A signed number in `w` bits. -/
def signed (w : Nat) (x : Int) : Nat := (BitVec.ofInt w x).toNat

/-- A thermal table entry, 8000H when absent (Table 13-7). -/
def thermalEntryCode : Option Int → Nat
  | none => 0x8000
  | some t => signed 16 t

/-- A fault kind's code, from 01H (Table 13-5). -/
def FaultKind.code (k : FaultKind) : Nat := k.bit + 1

/-- A fault detail as a number (Table 12-2, Table 13-5). -/
def FaultDetail.code : FaultDetail → Nat
  | .epoch e => e.toNat
  | .extensions n => n
  | .reason r => r.code.toNat
  | .missed n => n.toNat
  | .cause .thot => 1
  | .cause (.report _) => 2
  | .cause (.sessionEnd _) => 3
  | .crc => 1
  | .sequence => 2
  | .dropped n => n

/-- The session state's code. -/
def Session.code : Session → Nat
  | .down => 0
  | .linked => 1
  | .joined _ => 2
  | .leaving _ _ _ _ => 3

/-- The leave report, in LEAVING. -/
def Session.report : Session → Bool
  | .leaving _ _ _ r => r
  | _ => false

/-- A queue entry's kind by its kind code (Table 13-4). -/
def Request.code : Request → Nat
  | .rowOpen _ => 0x10
  | .colRead _ _ _ => 0x11
  | .colWrite _ _ _ _ => 0x12
  | .rowClose => 0x13

/-- A waiting-reason's code, 00H for none (Table 13-8). -/
def waitCode : Option WaitReason → Nat
  | none => 0
  | some .contention => 1
  | some .holds => 2
  | some .drain => 3
  | some .lock => 4
  | some .returnFull => 5
  | some .rankState => 6

/-- A bank's state code (Table 13-6). -/
def BankState.code : BankState → Nat
  | .closed => 0
  | .opened _ => 1
  | .revoking _ => 2

/-- The contended flag. -/
def BankState.isContended : BankState → Bool
  | .closed => false
  | .opened l => l.contended
  | .revoking r => r.contended

/-! ### The views -/

/-- ck remaining to an instant that may be absent, 0 then. -/
def State.remaining? (s : State) (t : Option Nat) : Nat :=
  match t with
  | none => 0
  | some t => s.remaining t

/-- Identification, control, command and status registers, alert mask and rank time (Table 13-6). -/
def controlRegisters : List Register :=
  [⟨0x0000, 1, fun _ => 0x72⟩, ⟨0x0001, 1, fun _ => 0x04⟩, ⟨0x0002, 1, fun _ => 0x01⟩, ⟨0x0010, 1, fun _ => 0⟩,
    ⟨0x0011, 1, fun _ => 0⟩, ⟨0x0012, 1, fun s => s.rank.status.code⟩, ⟨0x0013, 1, fun s => s.profile.commit.code⟩,
    ⟨0x0014, 1, fun s => s.profile.commit.check⟩, ⟨0x0015, 1, fun s => s.fault.popStatus.code⟩,
    ⟨0x0016, 1, fun s => bit s.fault.mgmtError⟩, ⟨0x0020, 2, fun s => s.fault.mask.toNat⟩,
    ⟨0x0030, 6, fun s => s.time48.toNat⟩]

/-- The rank status view (Table 13-7; R41, R73, R88, R105, R114, R132). -/
def rankStatusView : List Register :=
  [⟨0x0040, 1, fun s => s.rank.state.name.code.toNat⟩, ⟨0x0041, 1, fun s => s.rank.state.phaseCode⟩,
    ⟨0x0042, 4, fun s => s.remaining? s.rank.state.phaseEnd⟩,
    ⟨0x0046, 1, fun s => bit s.rank.retained + 2 * bit s.rank.stopPending + 4 * bit s.rank.sleepBegun +
      8 * bit s.rank.state.exitWanted + 16 * bit s.rank.state.wakeWanted + 32 * bit s.calibration.shortDue⟩,
    ⟨0x0047, 1, fun s => s.rank.idle.code⟩, ⟨0x0048, 4, fun s => s.remaining? s.rank.idle.expiry⟩,
    ⟨0x004C, 4, fun s => s.remaining? s.rank.state.residencyEnd⟩] ++
  registerRow 0x0050 1 allPorts (fun p s => voteCode (s.rank.votes.look p)) ++
  [⟨0x0054, 1, fun s => s.arbiter.pointer.val⟩, ⟨0x0055, 1, fun s => s.arbiter.lastGrant.classCode⟩,
    ⟨0x0056, 1, fun s => s.arbiter.lastGrant.port⟩, ⟨0x0057, 1, fun s => s.windowCount⟩,
    ⟨0x0058, 1, fun s => s.burstCount⟩, ⟨0x0059, 1, fun s => s.drain.phase.code⟩,
    ⟨0x005A, 1, fun s => s.drain.purposes.code.toNat⟩, ⟨0x005B, 1, fun s => bit s.drain.urgent⟩,
    ⟨0x005C, 2, fun s => s.remaining? s.drain.phase.deadline⟩, ⟨0x005E, 1, fun s => s.calibration.busy.code⟩,
    ⟨0x0060, 4, fun s => s.remaining? s.calibration.busy.finish⟩,
    ⟨0x0064, 4, fun s => s.remaining? s.calibration.lock⟩, ⟨0x0068, 1, fun s => signed 8 s.refresh.balance⟩,
    ⟨0x0069, 1, fun s => bit s.refresh.timer.isSome⟩, ⟨0x006A, 4, fun s => s.remaining? s.refresh.timer⟩,
    ⟨0x006E, 1, fun s => s.refresh.count⟩,
    ⟨0x006F, 1, fun s => s.refresh.thermal.code.toNat + 2 * bit s.refresh.thot⟩] ++
  registerRow 0x0070 2 allPorts (fun p s => thermalEntryCode (s.refresh.table.look p))

/-- A field of the head fault record, 0 when the list is empty (section 13.4 note 1). -/
def State.headField (s : State) (f : FaultRecord → Nat) : Nat :=
  match s.fault.list with
  | [] => 0
  | r :: _ => f r

/-- The fault view, each field a register of its own (Table 13-6 note 1; R167). -/
def faultView : List Register :=
  [⟨0x0080, 1, fun s => s.fault.list.length⟩, ⟨0x0081, 1, fun s => bit s.fault.overflow⟩,
    ⟨0x0082, 1, fun s => s.fault.overflowCount⟩, ⟨0x0083, 1, fun s => s.headField fun r => r.kind.code⟩,
    ⟨0x0084, 1, fun s => s.headField fun r => (r.port.map Fin.val).getD 0xFF⟩,
    ⟨0x0085, 1, fun s => s.headField fun r => (r.bank.map Fin.val).getD 0xFF⟩,
    ⟨0x0088, 4, fun s => s.headField fun r => r.detail.code⟩, ⟨0x008C, 6, fun s => s.headField fun r => r.time.toNat⟩]

/-- The rank counters (Table 13-6; R169). -/
def rankCounterView : List Register :=
  [⟨0x00A0, 4, fun s => s.fault.rank.refreshes.toNat⟩, ⟨0x00A4, 4, fun s => s.fault.rank.pullIns.toNat⟩,
    ⟨0x00A8, 4, fun s => s.fault.rank.urgents.toNat⟩, ⟨0x00AC, 4, fun s => s.fault.rank.missed.toNat⟩,
    ⟨0x00B0, 4, fun s => s.fault.rank.revocations.toNat⟩]

/-- The profile view (Table 13-6; R164). -/
def profileView : List Register :=
  registerRow 0x0100 4 (List.finRange 38) (fun i s => Profile.field s.profile.staged i) ++
  [⟨0x0198, 4, fun s => s.profile.staged.writeDelay⟩] ++
  registerRow 0x0200 4 (List.finRange 38) (fun i s => Profile.field s.profile.active i) ++
  [⟨0x0298, 4, fun s => s.profile.active.writeDelay⟩, ⟨0x02A0, 1, fun s => bit s.profile.valid⟩]

/-- A field of the oldest entry of a port's queue, 0 when the queue is empty (R54, R175). -/
def State.oldestField (s : State) (p : Port) (f : Entry → Nat) : Nat :=
  match (s.queues.look p).entries with
  | [] => 0
  | e :: _ => f e

/-- An ISSUED slot whose session has ended (R155). -/
def State.slotEnded (s : State) (p : Port) : WriteSlot → Bool
  | .free => false
  | .held _ _ _ => false
  | .issued _ e _ => !s.isCurrent p e

/-- An AWAITING space whose session has ended (R155). -/
def State.spaceEnded (s : State) (p : Port) : ReadSpace → Bool
  | .free => false
  | .awaiting _ e => !s.isCurrent p e
  | .buffered _ _ _ => false

/-- The port status view of one port (Table 13-8; R54, R146, R155, R169). -/
def portView (p : Port) : List Register :=
  let a := 0x0400 + 0x40 * p.val
  [⟨a, 1, fun s => (s.links.look p).session.code⟩, ⟨a + 0x01, 1, fun s => (s.frameEpoch p).toNat⟩,
    ⟨a + 0x02, 1, fun s => if (s.links.look p).session.laneUp then (s.links.look p).expected.toNat else 0⟩,
    ⟨a + 0x03, 1, fun s => bit ((s.links.look p).session.laneUp && (s.links.look p).resync) +
      2 * bit ((s.links.look p).session.isLeaving && s.nothingInHand p) + 4 * bit (s.links.look p).session.report⟩,
    ⟨a + 0x04, 2, fun s => min 65535 (s.links.look p).outbound.length⟩, ⟨a + 0x06, 1, fun s => s.epochCounter.toNat⟩,
    ⟨a + 0x07, 1, fun s => (s.queues.look p).entries.length⟩,
    ⟨a + 0x08, 1, fun s => (s.queues.look p).outstanding.length⟩,
    ⟨a + 0x09, 1, fun s => s.oldestField p fun e => e.tag.toNat⟩,
    ⟨a + 0x0A, 1, fun s => s.oldestField p fun e => e.request.code⟩,
    ⟨a + 0x0B, 1, fun s => s.oldestField p fun e => e.bank.val⟩,
    ⟨a + 0x0C, 1, fun s => s.oldestField p fun e => bit e.aged⟩,
    ⟨a + 0x0D, 1, fun s => s.oldestField p fun e => waitCode e.waiting⟩,
    ⟨a + 0x0E, 1, fun s => (s.mover.ports.look p).slots.count WriteSlot.isHeld⟩,
    ⟨a + 0x0F, 1, fun s => (s.mover.ports.look p).slots.count WriteSlot.isIssued⟩,
    ⟨a + 0x10, 1, fun s => (s.mover.ports.look p).spaces.count ReadSpace.isAwaiting⟩,
    ⟨a + 0x11, 1, fun s => (s.mover.ports.look p).spaces.count ReadSpace.isBuffered⟩,
    ⟨a + 0x12, 1, fun s => (s.mover.ports.look p).slots.count (s.slotEnded p)⟩,
    ⟨a + 0x13, 1, fun s => (s.mover.ports.look p).spaces.count (s.spaceEnded p)⟩,
    ⟨a + 0x20, 4, fun s => (s.fault.ports.look p).accepted.toNat⟩,
    ⟨a + 0x24, 4, fun s => (s.fault.ports.look p).refused.toNat⟩,
    ⟨a + 0x28, 4, fun s => (s.fault.ports.look p).revocations.toNat⟩,
    ⟨a + 0x2C, 4, fun s => (s.fault.ports.look p).discarded.toNat⟩]

/-- The bank status view of one bank (Table 13-6; R23). -/
def bankStatus (s : State) (b : Bank) : Nat :=
  let e := s.banks.look b
  e.state.code + 4 * ((e.state.owner?.map fun o => o.port.val).getD 0) + 16 * bit e.state.isContended +
    32 * bit e.revokedFrom.isSome

/-- The bank status view (Table 13-6; R23). -/
def bankView : List Register := registerRow 0x0500 1 allBanks fun b s => bankStatus s b

/-- The whole register window. -/
def registers : List Register :=
  controlRegisters ++ rankStatusView ++ faultView ++ rankCounterView ++ profileView ++ allPorts.flatMap portView ++ bankView

/-- The register an address lies in, if it names one. -/
def registerAt (a : Nat) : Option Register := registers.find? fun r => decide (r.base ≤ a) && decide (a < r.base + r.size)

/-- The multi-byte register whose lowest byte an address is (R176). -/
def captureAt (a : Nat) : Option Register := (registerAt a).filter fun r => decide (r.base = a) && decide (1 < r.size)

/-- What a read of one byte returns (R171, R175, R176): 00H where no register is named; a higher byte of a register whose
capture stands, the captured byte; else the present one. -/
def State.readByte (s : State) (a : Nat) : Byte :=
  match registerAt a with
  | none => 0
  | some r =>
    match s.capture with
    | some c =>
      if r.base < a ∧ c.base = r.base then c.bytes.getD (a - r.base) 0 else byteOf (r.value s) (a - r.base)
    | none => byteOf (r.value s) (a - r.base)

/-- The management commands (Table 13-5), coded from 01H. -/
inductive ManagementCommand where
  | start | stop | commit | faultPop | softReset
  deriving DecidableEq, Repr

/-- The management command a code names (Table 13-5). -/
def ManagementCommand.ofCode (v : Byte) : Option ManagementCommand :=
  if v = 0x01#8 then some .start
  else if v = 0x02#8 then some .stop
  else if v = 0x03#8 then some .commit
  else if v = 0x04#8 then some .faultPop
  else if v = 0x05#8 then some .softReset
  else none

/-- Whether a write of a byte at an address is bad (R171): the address is not one Table 13-6 marks writable, or it is the
command register and the code names no command. -/
def badWrite (a : Nat) (v : Byte) : Bool :=
  if a = 0x0010 then false
  else if a = 0x0011 then (ManagementCommand.ofCode v).isNone
  else if a = 0x0020 ∨ a = 0x0021 then false
  else !(decide (0x0100 ≤ a) && decide (a < 0x0198))

end Sys2Proof.Machine
end

