-- ==== Sys2Proof/Machine/Management.lean ====
section
/-! DEFINITION. The commands of the management port: START, STOP, COMMIT, FAULT_POP, the writes and the capturing read (chapters
8, 11, 12 and 13). -/

namespace Sys2Proof.Machine

/-- The command status of START and STOP set (R118, R122). -/
def State.setStatus (s : State) (c : CommandStatus) : State := { s with rank := { s.rank with status := c } }

/-! ### START (R118) -/

/-- The bring-up a START begins: the full path with RESET_HOLD, or the retained path with CLOCK_SETTLE (R118). -/
def State.firstPhase (s : State) : RankState :=
  if s.rank.retained then .bringUp .retained (.clockSettle (s.time + s.prof.tSET))
  else .bringUp .full (.resetHold (s.time + s.prof.tRST))

/-- A START taken (R118): BRINGUP, and the refresh balance and count to 0 (R90, R99). -/
def State.takeStart (s : State) : State :=
  let s := (s.setStatus .ok).become s.firstPhase
  State.settle { s with refresh := { s.refresh with balance := 0, count := 0 } }

/-- START (R118). -/
def execStart (s : State) : Host.Outcome State Fault Refusal :=
  if s.rank.state ≠ .offline then .next (s.setStatus .notOffline)
  else if s.profile.valid = false then .next (s.setStatus .noProfile)
  else .next s.takeStart

/-! ### STOP (R121, R122) -/

/-- The retained flag after a STOP in BRINGUP: kept on the retained path before its exit, else clear (R122). -/
def BringUpPhase.keepsRetained (path : BringUpPath) : BringUpPhase → Bool
  | .clockSettle _ => path == .retained
  | .exitWait none => path == .retained
  | .exitWait (some _) => false
  | .resetHold _ => false
  | .modeLoad _ => false
  | .longCal _ => false

/-- STOP made pending in POWERDOWN (R121): exit wanted, and unanimity judged for the setting of stop pending (R128). -/
def State.stopInPowerDown (s : State) : State :=
  (State.wantExit { s with rank := { s.rank with stopPending := true } }).judgeUnanimity.settle

/-- STOP made pending in WAKING, to be carried out at the wake end (R122). -/
def State.stopInWaking (s : State) : State := State.settle { s with rank := { s.rank with stopPending := true } }

/-- STOP (R121, R122). -/
def execStop (s : State) : Host.Outcome State Fault Refusal :=
  if s.rank.stopPending then .next (s.setStatus .notRunning)
  else
    match s.rank.state with
    | .active => .next (s.setStatus .ok).carryOutStop.settle
    | .powerDown _ => .next (s.setStatus .ok).stopInPowerDown
    | .sleep _ => .next (((s.setStatus .ok).refuseQueues.enterOffline true).settle)
    | .waking _ => .next (s.setStatus .ok).stopInWaking
    | .bringUp path phase =>
      .next (((s.setStatus .ok).refuseQueues.enterOffline (s.rank.retained && phase.keepsRetained path)).settle)
    | .offline => .next (s.setStatus .notRunning)
    | .stopping => .next (s.setStatus .notRunning)

/-! ### COMMIT (R159, R162) -/

/-- The commit status set. -/
def State.setCommit (s : State) (c : CommitStatus) : State := { s with profile := { s.profile with commit := c } }

/-- A validation that passes (R162): the staged copy becomes the active copy, and balance and count go to 0. -/
def State.applyCommit (s : State) : State :=
  { s with
    profile := { s.profile with active := s.profile.staged, valid := true, commit := .commitOk }
    refresh := { s.refresh with balance := 0, count := 0 } }

/-- COMMIT (R159, R162). -/
def execCommit (s : State) : Host.Outcome State Fault Refusal :=
  if s.rank.state ≠ .offline then .next (s.setCommit .notOffline)
  else
    match s.profile.staged.firstFailure with
    | none => .next s.applyCommit
    | some n => .next (s.setCommit (.commitRejected n))

/-! ### FAULT_POP (R166, R167) -/

/-- The marker a pop appends where records were dropped (R166). -/
def FaultUnit.marker (f : FaultUnit) (now : BitVec 48) : List FaultRecord :=
  if f.overflow then [⟨.listOverflow, none, none, .dropped f.overflowCount, now⟩] else []

/-- A pop of a list with a head (R166, R167), ALERT judged (R168). -/
def FaultUnit.pop (f : FaultUnit) (now : BitVec 48) : FaultUnit :=
  FaultUnit.judge
    { f with list := f.list.tail ++ f.marker now, overflow := false, overflowCount := 0, popStatus := .ok }

/-- FAULT_POP (R167). -/
def execFaultPop (s : State) : Host.Outcome State Fault Refusal :=
  if s.fault.list.isEmpty then .next { s with fault := { s.fault with popStatus := .listEmpty } }
  else .next { s with fault := s.fault.pop s.time48 }

/-! ### Writes (R156, R168, R171) -/

/-- MGMT_ERROR_CLEAR (R171): a one in bit 0 clears; any other value leaves it. -/
def execMgmtErrorClear (value : Byte) (s : State) : Host.Outcome State Fault Refusal :=
  if value.getLsbD 0 then .next { s with fault := { s.fault with mgmtError := false } } else .next s

/-- ALERT_MASK_WRITE (R168): all nine enables replaced, bits above 8 stored nowhere (R176), ALERT judged. -/
def execAlertMaskWrite (value : BitVec 16) (s : State) : Host.Outcome State Fault Refusal :=
  .next { s with fault := FaultUnit.judge { s.fault with mask := value.extractLsb' 0 9 } }

/-- A profile field with one of its four bytes replaced, byte 0 the least significant (R175, R176). -/
def withByte (v : BitVec 32) (i : Fin 4) (b : Byte) : BitVec 32 :=
  (v &&& ~~~(0xFF#32 <<< (8 * i.val))) ||| (b.zeroExtend 32 <<< (8 * i.val))

/-- STAGED_PROFILE_WRITE (R156): the byte stored as written, nothing else changed. -/
def execStagedProfileWrite (field : Fin 38) (byte : Fin 4) (value : Byte) (s : State) : Host.Outcome State Fault Refusal :=
  .next { s with profile := { s.profile with
    staged := Table.modify s.profile.staged field fun v => withByte v byte value } }

/-- MGMT_WRITE_BAD (R171): discarded, MGMT_ERROR set. A write that is not bad is not this happening. -/
def execMgmtWriteBad (address : BitVec 16) (value : Byte) (s : State) : Host.Outcome State Fault Refusal :=
  if badWrite address.toNat value then .next { s with fault := { s.fault with mgmtError := true } } else .next s

/-- What a read of one byte leaves (R176): at the lowest byte of a multi-byte register its value is captured; any other read
changes nothing. -/
def State.captured (s : State) (address : BitVec 16) : State :=
  match captureAt address.toNat with
  | some r => { s with capture := some ⟨address.toNat, r.bytes s⟩ }
  | none => s

/-- REGISTER_CAPTURE (R176): the read of one byte. -/
def execRegisterCapture (address : BitVec 16) (s : State) : Host.Outcome State Fault Refusal := .next (s.captured address)

/-- The byte that a read of an address returns on the management port, its capture taken (R175, R176). -/
def State.returnedByte (s : State) (address : BitVec 16) : Byte := (s.captured address).readByte address.toNat

end Sys2Proof.Machine
end

