-- ==== Sys2Proof/Machine/Reset.lean ====
section
/-! DEFINITION. Power-on reset and soft reset (R115, R170 and the reset rule of every block). -/

namespace Sys2Proof.Machine

/-- The state right after the release of RESET_N, with the lane status of each port; the queue of commands and the free-value
counter are the model's own and stay. -/
def State.powerOn (s : State) (lanes : Table Bool 4) : State :=
  { State.reset with links := lanes.map PortLink.reset, freeIndex := s.freeIndex, pending := s.pending }

/-- POWER_ON_RESET (R115); with THOT asserted at the release a THOT-asserted happening follows at once (R101). -/
def execPowerOnReset (lanes : Table Bool 4) (thot : Bool) (s : State) : Host.Outcome State Fault Refusal :=
  .next (if thot then (s.powerOn lanes).takeThot true else s.powerOn lanes)

/-- A port's link after a soft reset (R133): LINKED with its lane up, DOWN with its lane down, everything else cleared. -/
def PortLink.softReset (l : PortLink) : PortLink := { PortLink.reset l.session.laneUp with lastFrame := l.lastFrame }

/-- The retained flag after a soft reset (R115). -/
def RankController.retainedAfterReset (r : RankController) : Bool :=
  match r.state with
  | .sleep _ => true
  | .offline => r.retained
  | .bringUp _ _ => false
  | .active => false
  | .powerDown _ => false
  | .waking _ => false
  | .stopping => false

/-- The state after a soft reset, before a THOT that stands asserted is taken (R170): what is kept is the rank time, the epoch
counter (R133), the profile (R157), the command status (R132), MGMT_ERROR (R171), and the commands already on the buses. -/
def State.cleared (s : State) : State :=
  { State.reset with
    time := s.time
    links := s.links.map PortLink.softReset
    epochCounter := s.epochCounter
    arbiter := { Arbiter.reset with commandBus := s.arbiter.commandBus }
    rank := { RankController.reset with retained := s.rank.retainedAfterReset, status := s.rank.status }
    profile := s.profile
    fault := { FaultUnit.reset with mgmtError := s.fault.mgmtError }
    freeIndex := s.freeIndex
    pending := s.pending }

/-- SOFT_RESET (R170); the recorded level is the THOT line's, since every change of the line is taken (R101). -/
def execSoftReset (s : State) : Host.Outcome State Fault Refusal :=
  .next (if s.refresh.thot then s.cleared.takeThot true else s.cleared)

end Sys2Proof.Machine
end

