-- ==== Sys2Proof/WellFormed.lean ====
section
/-! DEFINITION. Which commands are well formed: the operands are those the row's rule speaks of. A command that is not well
formed is not the happening its row names, and changes nothing. -/

namespace Sys2Proof

/-- Whether a command's operands are those its row is about. Every operand of the other rows has a type that admits only what
the rule admits, or a check of the rule itself that answers every value (a bank above 15, a row or column out of range). -/
def Instr.wellFormed : Instr → Bool
  | .powerOnReset _ _ => true
  | .linkUp _ => true
  | .linkDown _ => true
  | .thotAsserted => true
  | .thotDeasserted => true
  | .frameCrcDiscard _ bytes => !Machine.frameSound bytes
  | .frameOutOfSequence _ _ => true
  | .join _ _ _ => true
  | .leave _ _ => true
  | .leaseExtend _ _ _ => true
  | .cancel _ _ _ => true
  | .sleepVote _ _ => true
  | .wake _ _ => true
  | .tempReport _ _ _ => true
  | .rowOpen _ _ _ _ => true
  | .colRead _ _ _ _ _ _ => true
  | .colWrite _ _ _ _ _ _ _ => true
  | .rowClose _ _ _ => true
  | .handedToLink _ => true
  | .readyToLeave _ => true
  | .leaveComplete _ => true
  | .holdMet _ => true
  | .windowEntryLeaves => true
  | .leaseWarning _ => true
  | .leaseExpiry _ => true
  | .graceEnd => true
  | .intervalTimerExpiry => true
  | .entryAged _ _ => true
  | .writeBurstStart => true
  | .readBurstStart => true
  | .writeDataEnd => true
  | .readDataArrival _ => true
  | .rowOpenIssued => true
  | .colReadIssued => true
  | .colWriteIssued => true
  | .rowCloseIssued => true
  | .revocationCloseIssued => true
  | .refreshIssued => true
  | .shortCalibrationIssued => true
  | .longCalibrationIssued => true
  | .modeSetIssued => true
  | .powerDownEntryIssued => true
  | .powerDownExitIssued => true
  | .selfRefreshEntryIssued => true
  | .selfRefreshExitIssued => true
  | .longCalBusyEnd => true
  | .shortCalBusyEnd => true
  | .lockEnd => true
  | .resetHoldEnd => true
  | .clockSettleEnd => true
  | .exitWaitEnd => true
  | .modeLoadEnd => true
  | .idleTimerExpiry => true
  | .residencyEnd => true
  | .wakeEnd => true
  | .start => true
  | .stop => true
  | .commit => true
  | .faultPop => true
  | .softReset => true
  | .mgmtErrorClear _ => true
  | .alertMaskWrite _ => true
  | .stagedProfileWrite _ _ _ => true
  | .mgmtWriteBad address value => Machine.badWrite address.toNat value
  | .registerCapture address => (Machine.captureAt address.toNat).isSome
  | .badKindFrame _ _ kind length => !Machine.requestFrame kind length && decide (6 ≤ length)

end Sys2Proof
end

