-- ==== Sys2Proof/Decode.lean ====
section
/-! DEFINITION. How commands are spelled. The opcode table gives no row any bits, so no word spells a command. What the links
and the management port do spell is bytes: an inbound frame (R172, R173, Table 13-2) and a one-byte write (R175, Table 13-6).
Both readings are total, and the frames have an encoder beside them. -/

namespace Sys2Proof

/-- The command a word spells by the opcode table's bits: the table gives none of its 66 rows any bits, so none. -/
def decodeTableWord (_nbits _w : Nat) : Option Instr := none

namespace Machine

/-! ### Inbound frames -/

/-- Byte `i` of a frame, 0 past its end. -/
def byteAt (bytes : List Byte) (i : Nat) : Byte := bytes.getD i 0

/-- The header a request carries: bytes 0, 1 and 3 (Table 13-1). -/
def headerOf (bytes : List Byte) : Header := ⟨byteAt bytes 0, byteAt bytes 1, byteAt bytes 3⟩

/-- Two bytes at `i`, the most significant first (R172). -/
def word16At (bytes : List Byte) (i : Nat) : BitVec 16 := byteAt bytes i ++ byteAt bytes (i + 1)

/-- Three bytes at `i`, the most significant first (R172). -/
def word24At (bytes : List Byte) (i : Nat) : BitVec 24 := byteAt bytes i ++ byteAt bytes (i + 1) ++ byteAt bytes (i + 2)

/-- The 64 data bytes of a COL_WRITE, in frame order from byte 11 (Table 13-2). -/
def dataAt (bytes : List Byte) : Block := Vector.ofFn fun k => byteAt bytes (11 + k.val)

/-- The command of a sound frame of a kind and of that kind's length (Table 13-2). -/
def RequestKind.read (k : RequestKind) (p : Port) (bytes : List Byte) : Instr :=
  let h := headerOf bytes
  match k with
  | .join => .join p h (byteAt bytes 4)
  | .leave => .leave p h
  | .leaseExtend => .leaseExtend p h (byteAt bytes 4)
  | .cancel => .cancel p h (byteAt bytes 4)
  | .sleepVote => .sleepVote p h
  | .wake => .wake p h
  | .tempReport => .tempReport p h (word16At bytes 4)
  | .rowOpen => .rowOpen p h (byteAt bytes 4) (word24At bytes 5)
  | .colRead => .colRead p h (byteAt bytes 4) (word24At bytes 5) (word16At bytes 8) (byteAt bytes 10)
  | .colWrite => .colWrite p h (byteAt bytes 4) (word24At bytes 5) (word16At bytes 8) (byteAt bytes 10) (dataAt bytes)
  | .rowClose => .rowClose p h (byteAt bytes 4)

/-- The command an inbound frame is (R135, R137, R173): one that is not whole is a FRAME_CRC_DISCARD; a whole one of no request
kind, or not of its kind's length, a BAD_KIND_FRAME; else the request. Whether it is in sequence its meaning judges (R136). -/
def commandOfFrame (p : Port) (bytes : List Byte) : Instr :=
  if frameSound bytes then
    match RequestKind.ofCode (byteAt bytes 2) with
    | some k =>
      if bytes.length = k.length then k.read p bytes
      else .badKindFrame p (headerOf bytes) (byteAt bytes 2) bytes.length
    | none => .badKindFrame p (headerOf bytes) (byteAt bytes 2) bytes.length
  else .frameCrcDiscard p bytes

/-- A request frame: header, body and frame check (Table 13-1). -/
def requestBytes (h : Header) (k : RequestKind) (body : List Byte) : List Byte :=
  withCheck ([h.seq, h.epoch, k.code, h.tag] ++ body)

/-- The port and the frame of a request (Table 13-2); the other commands are not sent as request frames. -/
def frameOf : Instr → Option (Port × List Byte)
  | .join p h revision => some (p, requestBytes h .join [revision])
  | .leave p h => some (p, requestBytes h .leave [])
  | .leaseExtend p h bank => some (p, requestBytes h .leaseExtend [bank])
  | .cancel p h target => some (p, requestBytes h .cancel [target])
  | .sleepVote p h => some (p, requestBytes h .sleepVote [])
  | .wake p h => some (p, requestBytes h .wake [])
  | .tempReport p h t => some (p, requestBytes h .tempReport (bytes16 t))
  | .rowOpen p h bank row => some (p, requestBytes h .rowOpen (bank :: bytes24 row))
  | .colRead p h bank row column flags =>
    some (p, requestBytes h .colRead (bank :: (bytes24 row ++ (bytes16 column ++ [flags]))))
  | .colWrite p h bank row column flags data =>
    some (p, requestBytes h .colWrite (bank :: (bytes24 row ++ (bytes16 column ++ (flags :: data.toList)))))
  | .rowClose p h bank => some (p, requestBytes h .rowClose [bank])
  | .powerOnReset _ _ => none
  | .linkUp _ => none
  | .linkDown _ => none
  | .thotAsserted => none
  | .thotDeasserted => none
  | .frameCrcDiscard _ _ => none
  | .frameOutOfSequence _ _ => none
  | .handedToLink _ => none
  | .readyToLeave _ => none
  | .leaveComplete _ => none
  | .holdMet _ => none
  | .windowEntryLeaves => none
  | .leaseWarning _ => none
  | .leaseExpiry _ => none
  | .graceEnd => none
  | .intervalTimerExpiry => none
  | .entryAged _ _ => none
  | .writeBurstStart => none
  | .readBurstStart => none
  | .writeDataEnd => none
  | .readDataArrival _ => none
  | .rowOpenIssued => none
  | .colReadIssued => none
  | .colWriteIssued => none
  | .rowCloseIssued => none
  | .revocationCloseIssued => none
  | .refreshIssued => none
  | .shortCalibrationIssued => none
  | .longCalibrationIssued => none
  | .modeSetIssued => none
  | .powerDownEntryIssued => none
  | .powerDownExitIssued => none
  | .selfRefreshEntryIssued => none
  | .selfRefreshExitIssued => none
  | .longCalBusyEnd => none
  | .shortCalBusyEnd => none
  | .lockEnd => none
  | .resetHoldEnd => none
  | .clockSettleEnd => none
  | .exitWaitEnd => none
  | .modeLoadEnd => none
  | .idleTimerExpiry => none
  | .residencyEnd => none
  | .wakeEnd => none
  | .start => none
  | .stop => none
  | .commit => none
  | .faultPop => none
  | .softReset => none
  | .mgmtErrorClear _ => none
  | .alertMaskWrite _ => none
  | .stagedProfileWrite _ _ _ => none
  | .mgmtWriteBad _ _ => none
  | .registerCapture _ => none
  | .badKindFrame _ _ _ _ => none

/-! ### Management writes -/

/-- The command of a management command code (Table 13-5). -/
def ManagementCommand.command : ManagementCommand → Instr
  | .start => .start
  | .stop => .stop
  | .commit => .commit
  | .faultPop => .faultPop
  | .softReset => .softReset

/-- The staged field and the byte of it that stand at an address of the staged copy (Table 13-6). -/
def stagedAt (a : Nat) : Option (Fin 38 × Fin 4) :=
  if h : 0x0100 ≤ a ∧ a < 0x0198 then some (⟨(a - 0x0100) / 4, by omega⟩, ⟨(a - 0x0100) % 4, by omega⟩) else none

/-- The command a write of one byte at an address is (R171, R175, Table 13-6), `mask` being the alert mask as it stands: a
byte written to the mask is a write of the mask with that byte replaced (assumption 6). -/
def commandOfWrite (mask : BitVec 9) (address : BitVec 16) (value : Byte) : Instr :=
  let a := address.toNat
  if a = 0x0010 then .mgmtErrorClear value
  else if a = 0x0011 then
    match ManagementCommand.ofCode value with
    | some c => c.command
    | none => .mgmtWriteBad address value
  else if a = 0x0020 then .alertMaskWrite ((mask.zeroExtend 16 &&& 0xFF00#16) ||| value.zeroExtend 16)
  else if a = 0x0021 then .alertMaskWrite ((mask.zeroExtend 16 &&& 0x00FF#16) ||| (value.zeroExtend 16 <<< 8))
  else
    match stagedAt a with
    | some (field, byte) => .stagedProfileWrite field byte value
    | none => .mgmtWriteBad address value

/-- The command a read of one byte at an address is: it captures where the address is the lowest of a wider register (R176). -/
def commandOfRead (address : BitVec 16) : Instr := .registerCapture address

/-! ### Management transfers (R175) -/

/-- The address after one, increasing (R175). After FFFFH the manual states none: a free value (assumption 28). -/
def nextAddress (a : BitVec 16) : BitVec 16 := if a = 0xFFFF#16 then Config.addressAfterTop else a + 1

/-- The one-byte accesses of consecutive bytes from an address on (R175). -/
def accessesFrom (a : BitVec 16) : List Byte → List (BitVec 16 × Byte)
  | [] => []
  | v :: rest => (a, v) :: accessesFrom (nextAddress a) rest

/-- The one-byte writes of a write transfer: its first two bytes are the address, high byte first, and the bytes after them are
written at consecutive addresses (R175). A transfer that ends within its address makes no access (assumption 28). -/
def writeAccesses : List Byte → List (BitVec 16 × Byte)
  | [] => []
  | [_] => []
  | high :: low :: values => accessesFrom (high ++ low) values

/-- The alert mask after a command of the management port (R168, R170). -/
def maskAfter (mask : BitVec 9) : Instr → BitVec 9
  | .alertMaskWrite value => value.extractLsb' 0 9
  | .softReset => 0x1FF#9
  | _ => mask

/-- The commands of one-byte writes, in their order, the alert mask standing as each leaves it (R171: one access at a time). -/
def commandsOfWrites (mask : BitVec 9) : List (BitVec 16 × Byte) → List Instr
  | [] => []
  | (address, value) :: rest =>
    let c := commandOfWrite mask address value
    c :: commandsOfWrites (maskAfter mask c) rest

/-- The commands a write transfer of the management port is, from its bytes (R175). -/
def commandsOfWriteTransfer (mask : BitVec 9) (bytes : List Byte) : List Instr := commandsOfWrites mask (writeAccesses bytes)

/-- The addresses of `n` consecutive bytes (R175). -/
def addressesFrom (a : BitVec 16) : Nat → List (BitVec 16)
  | 0 => []
  | n + 1 => a :: addressesFrom (nextAddress a) n

/-- The commands of a read transfer of `n` bytes, from the two bytes of its address, high byte first (R175). The byte each
returns is `State.returnedByte` when it is taken. -/
def commandsOfReadTransfer (high low : Byte) (n : Nat) : List Instr := (addressesFrom (high ++ low) n).map commandOfRead

end Machine
end Sys2Proof
end

