-- ==== Sys2Proof/Machine/Clock.lean ====
section
/-! DEFINITION. What the block does by itself when no command waits: the happening that is due at the present rank time, in one
fixed order, and the passing of a ck when none is (assumption 7). -/

namespace Sys2Proof.Machine

/-- The 62 holds, in the order of Table 2-1. -/
def allHolds : List HoldId :=
  allBanks.map .bankOpen ++ allBanks.map .bankColumn ++ allBanks.map .bankClose ++ allGroups.map .groupOpen ++
    allGroups.map .groupColumn ++ [.rankOpen, .rankColumn, .read, .write, .rankOperation, .command]

/-- A command that is due when a test holds. -/
def dueIf (b : Bool) (c : Instr) : Option Instr := if b then some c else none

/-- The first of several that is due. -/
def firstDue : List (Option Instr) → Option Instr
  | [] => none
  | some c :: _ => some c
  | none :: rest => firstDue rest

/-- The leaves that are ready or complete, port by port (R141, R142). -/
def State.dueLeaves (s : State) : List (Option Instr) :=
  allPorts.map (fun p => dueIf (s.leaveReady p).isSome (.readyToLeave p)) ++
    allPorts.map (fun p => dueIf (s.leaveDone p).isSome (.leaveComplete p))

/-- The hold-met happenings and the leaving of the oldest window entry (R24, R39). -/
def State.dueHolds (s : State) : List (Option Instr) :=
  allHolds.map (fun id => dueIf (s.holdDue id) (.holdMet id)) ++ [dueIf s.windowDue .windowEntryLeaves]

/-- The happenings of the data bus record (R33); the data of a read come from outside the part and are free (assumption 4). -/
def State.dueBursts (s : State) : List (Option Instr) :=
  [dueIf (s.endDue .write) .writeDataEnd, dueIf (s.endDue .read) (.readDataArrival (Config.busData s.freeIndex)),
    dueIf (s.startDue .write) .writeBurstStart, dueIf (s.startDue .read) .readBurstStart]

/-- The ends of the calibration, of the lock window, of the bring-up phases and of the wake (R107, R110, R112, R119, R120,
R131). -/
def State.dueRank (s : State) : List (Option Instr) :=
  [dueIf s.longBusyDue .longCalBusyEnd, dueIf s.shortBusyDue .shortCalBusyEnd, dueIf s.lockDue .lockEnd,
    dueIf s.resetHoldDue .resetHoldEnd, dueIf s.clockSettleDue .clockSettleEnd, dueIf s.exitWaitDue .exitWaitEnd,
    dueIf s.modeLoadDue .modeLoadEnd, dueIf s.wakeDue .wakeEnd]

/-- The lease and drain deadlines, lowest bank first (R10, R15, R79). -/
def State.dueLeases (s : State) : List (Option Instr) :=
  allBanks.map (fun b => dueIf (s.warningDue b) (.leaseWarning b)) ++
    allBanks.map (fun b => dueIf (s.expiryDue b) (.leaseExpiry b)) ++ [dueIf s.graceDue .graceEnd]

/-- The entry of a port that becomes aged next (R56). -/
def State.dueAged (s : State) (p : Port) : Option Instr :=
  ((s.queues.look p).entries.find? s.agingDue).map fun e => .entryAged p e.tag

/-- The timers of the rank (R91, R56, R124, R126). -/
def State.dueTimers (s : State) : List (Option Instr) :=
  [dueIf s.intervalDue .intervalTimerExpiry] ++ allPorts.map s.dueAged ++
    [dueIf s.idleDue .idleTimerExpiry, dueIf s.residencyDue .residencyEnd]

/-- The issue command of a rank operation. -/
def RankOperation.command : RankOperation → Instr
  | .refresh _ => .refreshIssued
  | .shortCalibration => .shortCalibrationIssued
  | .longCalibration => .longCalibrationIssued
  | .modeSet _ => .modeSetIssued
  | .powerDownEntry => .powerDownEntryIssued
  | .powerDownExit => .powerDownExitIssued
  | .selfRefreshEntry => .selfRefreshEntryIssued
  | .selfRefreshExit => .selfRefreshExitIssued

/-- The issue command of a request. -/
def Request.command : Request → Instr
  | .rowOpen _ => .rowOpenIssued
  | .colRead _ _ _ => .colReadIssued
  | .colWrite _ _ _ _ => .colWriteIssued
  | .rowClose => .rowCloseIssued

/-- The issue command of a grant (R60). -/
def Grant.command : Grant → Instr
  | .operation op => op.command
  | .revocation _ => .revocationCloseIssued
  | .request _ _ e => e.request.command

/-- The happening the block takes by itself at the present rank time: one that is due, else the arbiter's grant (R60), which
is not kept back from a ready offer. -/
def State.dueHappening (s : State) : Option Instr :=
  firstDue (s.dueLeaves ++ s.dueHolds ++ s.dueBursts ++ s.dueRank ++ s.dueLeases ++ s.dueTimers ++
    [s.grant.map Grant.command])

/-- One ck passes (R1): the bus carries a command only in the ck of its issue (R60). -/
def State.tick (s : State) : State := { s with time := s.time + 1, arbiter := { s.arbiter with commandBus := none } }

/-- The state on which the block takes its own happening: the next free value is another one (assumption 4). -/
def State.drawn (s : State) : State := { s with freeIndex := s.freeIndex + 1 }

end Sys2Proof.Machine
end

