-- ==== Sys2Proof/Machine/Dispatch.lean ====
section
/-! DEFINITION. Every command to its meaning, one arm per row of the opcode table, in the table's order. -/

namespace Sys2Proof.Machine

def exec (i : Instr) (s : State) : Host.Outcome State Fault Refusal :=
  match i with
  | .powerOnReset lanes thot => Sys2Proof.Machine.execPowerOnReset lanes thot s
  | .linkUp p => Sys2Proof.Machine.execLinkUp p s
  | .linkDown p => Sys2Proof.Machine.execLinkDown p s
  | .thotAsserted => Sys2Proof.Machine.execThotAsserted s
  | .thotDeasserted => Sys2Proof.Machine.execThotDeasserted s
  | .frameCrcDiscard p bytes => Sys2Proof.Machine.execFrameCrcDiscard p bytes s
  | .frameOutOfSequence p seq => Sys2Proof.Machine.execFrameOutOfSequence p seq s
  | .join p h revision => Sys2Proof.Machine.execJoin p h revision s
  | .leave p h => Sys2Proof.Machine.execLeave p h s
  | .leaseExtend p h bank => Sys2Proof.Machine.execLeaseExtend p h bank s
  | .cancel p h target => Sys2Proof.Machine.execCancel p h target s
  | .sleepVote p h => Sys2Proof.Machine.execSleepVote p h s
  | .wake p h => Sys2Proof.Machine.execWake p h s
  | .tempReport p h temperature => Sys2Proof.Machine.execTempReport p h temperature s
  | .rowOpen p h bank row => Sys2Proof.Machine.execRowOpen p h bank row s
  | .colRead p h bank row column flags => Sys2Proof.Machine.execColRead p h bank row column flags s
  | .colWrite p h bank row column flags data => Sys2Proof.Machine.execColWrite p h bank row column flags data s
  | .rowClose p h bank => Sys2Proof.Machine.execRowClose p h bank s
  | .handedToLink p => Sys2Proof.Machine.execHandedToLink p s
  | .readyToLeave p => Sys2Proof.Machine.execReadyToLeave p s
  | .leaveComplete p => Sys2Proof.Machine.execLeaveComplete p s
  | .holdMet id => Sys2Proof.Machine.execHoldMet id s
  | .windowEntryLeaves => Sys2Proof.Machine.execWindowEntryLeaves s
  | .leaseWarning b => Sys2Proof.Machine.execLeaseWarning b s
  | .leaseExpiry b => Sys2Proof.Machine.execLeaseExpiry b s
  | .graceEnd => Sys2Proof.Machine.execGraceEnd s
  | .intervalTimerExpiry => Sys2Proof.Machine.execIntervalTimerExpiry s
  | .entryAged p tag => Sys2Proof.Machine.execEntryAged p tag s
  | .writeBurstStart => Sys2Proof.Machine.execWriteBurstStart s
  | .readBurstStart => Sys2Proof.Machine.execReadBurstStart s
  | .writeDataEnd => Sys2Proof.Machine.execWriteDataEnd s
  | .readDataArrival data => Sys2Proof.Machine.execReadDataArrival data s
  | .rowOpenIssued => Sys2Proof.Machine.execRowOpenIssued s
  | .colReadIssued => Sys2Proof.Machine.execColReadIssued s
  | .colWriteIssued => Sys2Proof.Machine.execColWriteIssued s
  | .rowCloseIssued => Sys2Proof.Machine.execRowCloseIssued s
  | .revocationCloseIssued => Sys2Proof.Machine.execRevocationCloseIssued s
  | .refreshIssued => Sys2Proof.Machine.execRefreshIssued s
  | .shortCalibrationIssued => Sys2Proof.Machine.execShortCalibrationIssued s
  | .longCalibrationIssued => Sys2Proof.Machine.execLongCalibrationIssued s
  | .modeSetIssued => Sys2Proof.Machine.execModeSetIssued s
  | .powerDownEntryIssued => Sys2Proof.Machine.execPowerDownEntryIssued s
  | .powerDownExitIssued => Sys2Proof.Machine.execPowerDownExitIssued s
  | .selfRefreshEntryIssued => Sys2Proof.Machine.execSelfRefreshEntryIssued s
  | .selfRefreshExitIssued => Sys2Proof.Machine.execSelfRefreshExitIssued s
  | .longCalBusyEnd => Sys2Proof.Machine.execLongCalBusyEnd s
  | .shortCalBusyEnd => Sys2Proof.Machine.execShortCalBusyEnd s
  | .lockEnd => Sys2Proof.Machine.execLockEnd s
  | .resetHoldEnd => Sys2Proof.Machine.execResetHoldEnd s
  | .clockSettleEnd => Sys2Proof.Machine.execClockSettleEnd s
  | .exitWaitEnd => Sys2Proof.Machine.execExitWaitEnd s
  | .modeLoadEnd => Sys2Proof.Machine.execModeLoadEnd s
  | .idleTimerExpiry => Sys2Proof.Machine.execIdleTimerExpiry s
  | .residencyEnd => Sys2Proof.Machine.execResidencyEnd s
  | .wakeEnd => Sys2Proof.Machine.execWakeEnd s
  | .start => Sys2Proof.Machine.execStart s
  | .stop => Sys2Proof.Machine.execStop s
  | .commit => Sys2Proof.Machine.execCommit s
  | .faultPop => Sys2Proof.Machine.execFaultPop s
  | .softReset => Sys2Proof.Machine.execSoftReset s
  | .mgmtErrorClear value => Sys2Proof.Machine.execMgmtErrorClear value s
  | .alertMaskWrite value => Sys2Proof.Machine.execAlertMaskWrite value s
  | .stagedProfileWrite field byte value => Sys2Proof.Machine.execStagedProfileWrite field byte value s
  | .mgmtWriteBad address value => Sys2Proof.Machine.execMgmtWriteBad address value s
  | .registerCapture address => Sys2Proof.Machine.execRegisterCapture address s
  | .badKindFrame p h kind length => Sys2Proof.Machine.execBadKindFrame p h kind length s

end Sys2Proof.Machine
end

