-- ==== Sys2Proof/Machine/Step.lean ====
section
/-! DEFINITION. One step of the block, and the placing of a command at the front of its queue. -/

namespace Sys2Proof.Machine

/-- What the block does when no command waits (assumption 7): it takes the happening that is due, or lets one ck pass. -/
def idleStep (s : State) : Host.Outcome State Fault Refusal :=
  match s.dueHappening with
  | some c => exec c s.drawn
  | none => .next s.tick

/-- One step: the command at the front of the queue is taken and carried out; on an empty queue the block acts by itself. -/
def step (s : State) : Host.Outcome State Fault Refusal :=
  match s.pending with
  | c :: rest => exec c { s with pending := rest }
  | [] => idleStep s

/-- The state with the command a word spells put at the front of the queue; unchanged where the word spells none. -/
def State.withFetchWord (s : State) (nbits w : Nat) : State :=
  match decodeTableWord nbits w with
  | some c => { s with pending := c :: s.pending }
  | none => s

end Sys2Proof.Machine
end

