-- ==== Sys2Proof/Safety.lean ====
section
/-! DEFINITION. The terms in which claims about the block are written: the parts of the state and what it means that a command
leaves them alone, the states that differ only in what every happening judges anew, and the invariants. -/

namespace Sys2Proof.Machine

/-! ### Frames -/

/-- The parts of the state, one per block of Table 2-1 and per thing the whole part holds. -/
inductive Part where
  | time | links | epochCounter | queues | banks | drain | holds | arbiter | mover | refresh | calibration | rank | profile
  | fault | capture | freeIndex | pending
  deriving DecidableEq, Repr

/-- Two states agree in a part. -/
def Part.Agree (s t : State) : Part → Prop
  | .time => t.time = s.time
  | .links => t.links = s.links
  | .epochCounter => t.epochCounter = s.epochCounter
  | .queues => t.queues = s.queues
  | .banks => t.banks = s.banks
  | .drain => t.drain = s.drain
  | .holds => t.holds = s.holds
  | .arbiter => t.arbiter = s.arbiter
  | .mover => t.mover = s.mover
  | .refresh => t.refresh = s.refresh
  | .calibration => t.calibration = s.calibration
  | .rank => t.rank = s.rank
  | .profile => t.profile = s.profile
  | .fault => t.fault = s.fault
  | .capture => t.capture = s.capture
  | .freeIndex => t.freeIndex = s.freeIndex
  | .pending => t.pending = s.pending

/-- Every part but those listed is unchanged from `s` to `t`. -/
def SameBut (parts : List Part) (s t : State) : Prop := ∀ x, x ∉ parts → x.Agree s t

/-- A queue entry without its waiting-reason, which every assessment sets anew (R54). -/
def Entry.bare (e : Entry) : Entry := { e with waiting := none }

/-- A queue without its waiting-reasons. -/
def PortQueue.bare (q : PortQueue) : PortQueue := { q with entries := q.entries.map Entry.bare }

/-- A state without what the end of most happenings judges anew: waiting-reasons (R54) and the idle timer (R124). -/
def State.bare (s : State) : State :=
  { s with queues := s.queues.map PortQueue.bare, rank := { s.rank with idle := .stopped } }

/-! ### Frames of the links -/

/-- A frame with this header is in sequence and of the port's current session (R136, R137). -/
def State.takes (s : State) (p : Port) (h : Header) : Prop :=
  h.seq = (s.links.look p).expected ∧ s.epoch? p = some h.epoch

/-- The state with frames appended to a port's outbound queue. -/
def State.withSent (s : State) (p : Port) (frames : List OutFrame) : State :=
  let l := s.links.look p
  { s with links := s.links.put p { l with outbound := l.outbound ++ frames } }

/-- The state after a frame in sequence has been counted (R136) and some frames have been sent in answer. -/
def State.answered (s : State) (p : Port) (frames : List OutFrame) : State :=
  let l := s.links.look p
  { s with links := s.links.put p { l with expected := l.expected + 1, resync := false, outbound := l.outbound ++ frames } }

/-- The state after a frame in sequence has been refused and nothing else has happened (R137, R44). -/
def State.refusedWith (s : State) (p : Port) (tag : Byte) (r : RefusalReason) : State :=
  let c := s.fault.ports.look p
  { s.answered p [⟨(s.epoch? p).getD 0, tag, .refused r⟩] with
    fault := { s.fault with ports := s.fault.ports.put p { c with refused := c.refused + 1 } } }

/-- The outbound sequence of a port begins, in `t`, with what it was in `s` and these frames after it. -/
def Sent (s t : State) (p : Port) (frames : List OutFrame) : Prop :=
  (s.links.look p).outbound ++ frames <+: (t.links.look p).outbound

/-- A master is awake and no sleep entry is under way, so that judging unanimity changes nothing (R128). -/
def State.awakeMaster (s : State) : Prop := s.rank.sleepBegun = false ∧ ∃ p, s.rank.votes.look p = some .awake

/-- No entry of any port, this one of port `p` apart, names the entry's bank. -/
def State.onlyFor (s : State) (p : Port) (e : Entry) : Prop :=
  (∀ x ∈ (s.queues.look p).entries.erase e, x.bank ≠ e.bank) ∧
    ∀ q, q ≠ p → ∀ x ∈ (s.queues.look q).entries, x.bank ≠ e.bank

/-- The state with a notice handed to every port whose session is current (R103, R117). -/
def State.told (s : State) (m : Message) : State :=
  { s with links := Vector.ofFn fun q =>
      let l := s.links.look q
      match s.epoch? q with
      | some e => { l with outbound := l.outbound ++ [⟨e, 0, m⟩] }
      | none => l }

/-- The state with a record handed to the Fault Unit now (R165). -/
def State.recorded (s : State) (k : FaultKind) (p : Option Port) (b : Option Bank) (d : FaultDetail) : State :=
  { s with fault := s.fault.hand ⟨k, p, b, d, s.time48⟩ }

/-! ### Frames of the Hold Unit -/

/-- Every hold listed is raised, by the amount listed, after now (R24); every other hold is as it was. -/
def Raised (l : List (HoldId × Nat)) (s t : State) : Prop :=
  ∀ id, t.holds.holds.hold id =
    match l.find? fun x => x.1 == id with
    | some x => Hold.raise s.time (s.time + x.2) (s.holds.holds.hold id)
    | none => s.holds.holds.hold id

/-- The holds are raised as listed, and the window list and the data bus record are as they were. -/
def OnlyRaised (l : List (HoldId × Nat)) (s t : State) : Prop :=
  Raised l s t ∧ t.holds.window = s.holds.window ∧ t.holds.bursts = s.holds.bursts

/-- The data bus record has a burst more, in its place by start time (R33). -/
def BurstAdded (b : Burst) (s t : State) : Prop :=
  ∃ before after, s.holds.bursts = before ++ after ∧ t.holds.bursts = before ++ b :: after ∧
    (∀ x ∈ before, x.start ≤ b.start) ∧ (∀ x ∈ after.head?, b.start < x.start)

/-- The arbiter after the grant of a request (R66, R67, R73) whose command is on the bus. -/
def grantedArbiter (aged : Bool) (p : Port) (c : BusCommand) : Arbiter :=
  ⟨p + 1, if aged then .agedRequest p else .request p, some c⟩

/-- The queue of a port after the issue of its entry: the entry gone, and its tag where it settles the request (R46, R55). -/
def PortQueue.issued (q : PortQueue) (e : Entry) (settled : Bool) : PortQueue :=
  ⟨q.entries.erase e, if settled then q.outstanding.erase e.tag else q.outstanding⟩

/-- The drain once a bank has closed: in SERVICE if the drain waited for that and all banks are CLOSED (R80). -/
def Drain.onClose (d : Drain) (allClosed : Prop) (d' : Drain) : Prop :=
  (allClosed → ((∃ t, d.phase = .grace t) ∨ d.phase = .closing) → d' = { d with phase := .service }) ∧
    ((¬allClosed ∨ d.phase = .none ∨ d.phase = .service) → d' = d)

/-- All banks but one are CLOSED. -/
def State.restClosed (s : State) (b : Bank) : Prop := ∀ x, x ≠ b → (s.banks.look x).state = .closed

/-! ### Arrivals (R44, R45) -/

/-- The first of several conditions that holds is the one with this name. -/
def FirstOf {α : Type} : List (Prop × α) → α → Prop
  | [], _ => False
  | (c, x) :: rest, r => (c ∧ r = x) ∨ (¬c ∧ FirstOf rest r)

/-- The row and the column of a request lie in their ranges (check 3 of Table 3-2). -/
def Arrival.fits (f : Profile) : Arrival → Prop
  | .rowOpen row => row.toNat < f.rowCount
  | .colRead row column _ => row.toNat < f.rowCount ∧ column.toNat ≤ 1023 ∧ column.toNat % 8 = 0
  | .colWrite row column _ _ => row.toNat < f.rowCount ∧ column.toNat ≤ 1023 ∧ column.toNat % 8 = 0
  | .rowClose => True

/-- The arrival checks of Table 3-2 in their order: what fails each, and the reason it gives. -/
def State.arrivalFailures (s : State) (p : Port) (tag bank : Byte) (a : Arrival) : List (Prop × RefusalReason) :=
  [(s.rank.state = .offline, .rankOffline), (s.rank.state = .stopping, .rankStopping),
    (∃ e tag asked report, (s.links.look p).session = .leaving e tag asked report, .sessionClosing),
    (16 ≤ bank.toNat ∨ ¬a.fits s.prof, .addressRange), (tag ∈ (s.queues.look p).outstanding, .duplicateTag),
    (16 ≤ (s.queues.look p).entries.length, .queueFull),
    ((∃ row column ac d, a = .colWrite row column ac d) ∧ ∀ i, ((s.mover.ports.look p).slots.look i) ≠ .free, .noWriteSlot)]

/-- A request passes every arrival check, names bank `b`, and takes `slot` if it is a COL_WRITE: the lowest FREE one (R44,
R148). -/
def State.Admits (s : State) (p : Port) (tag bank : Byte) (a : Arrival) (b : Bank) (slot : Fin 8) : Prop :=
  (∀ x ∈ s.arrivalFailures p tag bank a, ¬x.1) ∧ bank.toNat = b.val ∧
    ((∃ row column ac d, a = .colWrite row column ac d) →
      (s.mover.ports.look p).slots.look slot = .free ∧ ∀ j < slot, (s.mover.ports.look p).slots.look j ≠ .free)

/-- The entry a request becomes. -/
def Arrival.entry (a : Arrival) (tag : Byte) (b : Bank) (slot : Fin 8) (now : Nat) : Entry :=
  ⟨tag, b,
    match a with
    | .rowOpen row => .rowOpen row
    | .colRead row column ac => .colRead row column ac
    | .colWrite row column ac _ => .colWrite row column ac slot
    | .rowClose => .rowClose,
    now, false, none⟩

/-- A rank state told of a cause of exit and of wake: exit wanted in POWERDOWN (R126), wake wanted in SLEEP (R131). -/
def RankState.roused : RankState → RankState
  | .powerDown r => .powerDown { r with exitWanted := true }
  | .sleep _ => .sleep true
  | .offline => .offline
  | .bringUp path phase => .bringUp path phase
  | .active => .active
  | .waking t => .waking t
  | .stopping => .stopping

/-- The drain with its SLEEP purpose withdrawn if a sleep entry has begun (R83, R128). -/
def State.drainAwake (s : State) : Drain :=
  if s.rank.sleepBegun then s.drain.without { s.drain.purposes with sleep := false } else s.drain

/-- The state after a request has been accepted and before its entry is evaluated (R45): the entry at the tail, its tag
outstanding, its slot HELD, the vote AWAKE with what follows (R127, R128), exit and wake wanted (R126, R131). -/
def State.accepted (s : State) (p : Port) (h : Header) (b : Bank) (a : Arrival) (slot : Fin 8) : State :=
  let q := s.queues.look p
  let m := s.mover.ports.look p
  let c := s.fault.ports.look p
  { s.answered p [] with
    queues := s.queues.put p ⟨q.entries ++ [a.entry h.tag b slot s.time], q.outstanding ++ [h.tag]⟩
    mover := match a with
      | .colWrite _ _ _ d => { s.mover with ports := s.mover.ports.put p { m with slots := m.slots.put slot (.held h.tag h.epoch d) } }
      | .rowOpen _ => s.mover
      | .colRead _ _ _ => s.mover
      | .rowClose => s.mover
    fault := { s.fault with ports := s.fault.ports.put p { c with accepted := c.accepted + 1 } }
    rank := { s.rank with state := s.rank.state.roused, votes := s.rank.votes.put p (some .awake), sleepBegun := false }
    drain := s.drainAwake }

/-! ### Readiness of offers (R37, R53, Table 4-2) -/

/-- A hold is met now: met, or pending for an instant that is not after now (R24). -/
def State.HoldMet (s : State) (id : HoldId) : Prop := ∀ t, s.holds.holds.hold id = some t → t ≤ s.time

/-- All of these holds are met now. -/
def State.HoldsMet (s : State) (ids : List HoldId) : Prop := ∀ id ∈ ids, s.HoldMet id

/-- The holds that Table 2-4 tests for the command of a request on a bank. -/
def Request.tested (b : Bank) : Request → List HoldId
  | .rowOpen _ => [.bankOpen b, .groupOpen (groupOf b), .rankOpen, .command]
  | .colRead _ _ _ => [.bankColumn b, .groupColumn (groupOf b), .rankColumn, .read, .command]
  | .colWrite _ _ _ _ => [.bankColumn b, .groupColumn (groupOf b), .rankColumn, .write, .command]
  | .rowClose => [.bankClose b, .command]

/-- The bank is OPEN under the port's current session, on this row if one is named. -/
def State.holdsLease (s : State) (p : Port) (b : Bank) (row : Option Row) : Prop :=
  ∃ l, (s.banks.look b).state = .opened l ∧ l.owner = ⟨p, (s.epoch? p).getD 0⟩ ∧ ∀ r, row = some r → l.row = r

/-- A candidate: the first entry of the port's queue for its bank (R47), with its bank as R49 to R51 ask of one. -/
def State.Candidate (s : State) (p : Port) (e : Entry) : Prop :=
  (∃ before after, (s.queues.look p).entries = before ++ e :: after ∧ ∀ x ∈ before, x.bank ≠ e.bank) ∧
    match e.request with
    | .rowOpen _ => (s.banks.look e.bank).state = .closed
    | .colRead row _ _ => s.holdsLease p e.bank (some row)
    | .colWrite row _ _ _ => s.holdsLease p e.bank (some row)
    | .rowClose => s.holdsLease p e.bank none

/-- The conditions of Table 3-3 for an entry of the port: the rank ACTIVE and the holds of its command met for every kind; no drain,
no calibration in its busy time and room in the window (R40) for a ROW_OPEN; the lock window ended and a space FREE for a
COL_READ. -/
def State.MayIssue (s : State) (p : Port) (e : Entry) : Prop :=
  s.rank.state = .active ∧ s.HoldsMet (e.request.tested e.bank) ∧
    match e.request with
    | .rowOpen _ =>
      s.drain.phase = .none ∧ (∀ t, s.calibration.busy = .short t ∨ s.calibration.busy = .long t → t ≤ s.time) ∧
        (s.holds.window.filter fun t => decide (s.time < t + s.prof.tWS)).length < s.prof.nW
    | .colRead _ _ _ =>
      (∀ t, s.calibration.lock = some t → t ≤ s.time) ∧ ∃ i, (s.mover.ports.look p).spaces.look i = .free
    | .colWrite _ _ _ _ => True
    | .rowClose => True

/-- The revocation close of a bank stands ready: the bank REVOKING, its close holds met (R18). -/
def State.RevocationMayIssue (s : State) (b : Bank) : Prop :=
  (∃ r, (s.banks.look b).state = .revoking r) ∧ s.HoldsMet [.bankClose b, .command]

/-- What Table 2-4 and R64 ask of a rank operation: the command hold for the exits; for the others every bank open hold and the
rank operation hold too, no burst whose end lies ahead, and all 16 banks CLOSED. -/
def State.OperationMayIssue (s : State) (op : RankOperation) : Prop :=
  s.HoldMet .command ∧ (op ≠ .powerDownExit → op ≠ .selfRefreshExit →
    s.HoldMet .rankOperation ∧ (∀ b, s.HoldMet (.bankOpen b)) ∧ (∀ x ∈ s.holds.bursts, x.start + 4 ≤ s.time) ∧
      ∀ b, (s.banks.look b).state = .closed)

/-- The rank is idle (R97). -/
def State.Idle (s : State) : Prop :=
  s.rank.state = .active ∧ (∀ b, (s.banks.look b).state = .closed) ∧ s.drain.phase = .none ∧
    (∀ p, (s.queues.look p).entries = []) ∧ (∀ p i, (s.mover.ports.look p).spaces.look i = .free) ∧
    ∀ p i tag epoch d, (s.mover.ports.look p).slots.look i ≠ .issued tag epoch d

/-- A drain in SERVICE is served: the rank is ACTIVE or STOPPING (R84). -/
def State.Serves (s : State) : Prop :=
  s.drain.phase = .service ∧ (s.rank.state = .active ∨ s.rank.state = .stopping)

/-- When the owner of a rank operation offers it (Table 4-2): in drain service by the turn of R81 (R94, R109, R129), the pull-in of
an idle rank (R97), power-down by the idle timer and the exit's causes (R125, R126), wake and bring-up (R107, R119, R120, R131). -/
def State.Offers (s : State) : RankOperation → Prop
  | .refresh false => s.Serves ∧ s.drain.purposes.refresh = true ∧ 0 < s.refresh.balance
  | .refresh true => s.Idle ∧ -(s.prof.pim : Int) < s.refresh.balance
  | .shortCalibration =>
    s.Serves ∧ s.drain.purposes.refresh = false ∧ s.drain.purposes.calibrate = true ∧ s.calibration.shortDue = true ∧
      s.calibration.busy = .none
  | .selfRefreshEntry =>
    s.Serves ∧ s.drain.purposes.refresh = false ∧ s.drain.purposes.calibrate = false ∧
      (s.drain.purposes.sleep = true ∨ s.drain.purposes.stop = true)
  | .powerDownEntry =>
    s.rank.state = .active ∧ s.drain.phase = .none ∧ s.rank.idle = .expired ∧
      ¬(s.Idle ∧ -(s.prof.pim : Int) < s.refresh.balance)
  | .powerDownExit =>
    ∃ r, s.rank.state = .powerDown r ∧ r.exitWanted = true ∧ (r.passed = true ∨ r.residencyEnd ≤ s.time)
  | .selfRefreshExit => s.rank.state = .sleep true ∨ ∃ path, s.rank.state = .bringUp path (.exitWait none)
  | .longCalibration => ∃ path, s.rank.state = .bringUp path (.longCal false)
  | .modeSet .latency => ∃ path, s.rank.state = .bringUp path (.modeLoad .latencyNext)
  | .modeSet .write => ∃ path, s.rank.state = .bringUp path (.modeLoad .writeNext)

/-! ### The start of a drain (R75, R76) -/

/-- The port's current session owns an OPEN bank. -/
def State.hasOpen (s : State) (p : Port) : Prop :=
  ∃ b l, (s.banks.look b).state = .opened l ∧ l.owner.port = p ∧ s.epoch? p = some l.owner.epoch

/-- From `s` to `t` a drain has started with these purposes, `cut` where its first purpose cuts grace short. With all 16 banks CLOSED
it is in SERVICE; else in GRACE until now + tGR, or, where grace is cut or tGR is 0, in CLOSING with every OPEN bank revoked (R75,
R79, R80). Last of all that the happening sends, each port whose session owned an OPEN bank is sent one DRAIN notice, with the
grace remaining and the purposes; no other port is sent one (R76). -/
def DrainStarted (u : Purposes) (urgent cut : Bool) (s t : State) : Prop :=
  let atOnce := cut = true ∨ s.prof.tGR = 0
  ((∀ b, (s.banks.look b).state = .closed) → t.drain = ⟨.service, u, urgent⟩) ∧
    ((∃ b, (s.banks.look b).state ≠ .closed) →
      (atOnce → t.drain = ⟨.closing, u, urgent⟩) ∧ (¬atOnce → t.drain = ⟨.grace (s.time + s.prof.tGR), u, urgent⟩)) ∧
    (atOnce → ∀ b l, (s.banks.look b).state = .opened l → ∃ r, (t.banks.look b).state = .revoking r ∧ r.row = l.row ∧
      r.owner = l.owner ∧ r.reason = if u.stop then .stop else .drain) ∧
    (¬atOnce → t.banks = s.banks) ∧
    ∀ p, ∃ others : List OutFrame, (∀ f ∈ others, ∀ n v, f.message ≠ .drain n v) ∧
      (¬s.hasOpen p → (t.links.look p).outbound = (s.links.look p).outbound ++ others) ∧
      (∀ e, s.epoch? p = some e → s.hasOpen p → (t.links.look p).outbound =
        (s.links.look p).outbound ++ others ++ [⟨e, 0, .drain (if cut then 0 else s.prof.tGR) u⟩])

/-! ### The register window (Tables 13-6 to 13-8) -/

/-- A row of registers of one size: each with its address, its size and its value. -/
def tableRow {α : Type} (a n : Nat) (l : List α) (v : α → Nat) : List (Nat × Nat × Nat) :=
  l.zipIdx.map fun x => (a + n * x.2, n, v x.1)

/-- ck remaining to an instant, 0 where there is none. -/
def State.ckTo (s : State) : Option Nat → Nat
  | none => 0
  | some t => t - s.time

/-- Table 13-6 without the views: address, size, value; here and in the views a flag is 1 for yes (assumption 29). -/
def State.plainWindow (s : State) : List (Nat × Nat × Nat) :=
  [(0x0000, 1, 0x72), (0x0001, 1, 0x04), (0x0002, 1, 0x01), (0x0010, 1, 0), (0x0011, 1, 0), (0x0012, 1, s.rank.status.code),
    (0x0013, 1, s.profile.commit.code), (0x0014, 1, s.profile.commit.check), (0x0015, 1, s.fault.popStatus.code),
    (0x0016, 1, bit s.fault.mgmtError), (0x0020, 2, s.fault.mask.toNat), (0x0030, 6, s.time48.toNat),
    (0x0080, 1, s.fault.list.length), (0x0081, 1, bit s.fault.overflow), (0x0082, 1, s.fault.overflowCount),
    (0x0083, 1, (s.fault.list.head?.map fun r => r.kind.code).getD 0),
    (0x0084, 1, (s.fault.list.head?.map fun r => (r.port.map Fin.val).getD 0xFF).getD 0),
    (0x0085, 1, (s.fault.list.head?.map fun r => (r.bank.map Fin.val).getD 0xFF).getD 0),
    (0x0088, 4, (s.fault.list.head?.map fun r => r.detail.code).getD 0),
    (0x008C, 6, (s.fault.list.head?.map fun r => r.time.toNat).getD 0)] ++
  tableRow 0x00A0 4 [s.fault.rank.refreshes, s.fault.rank.pullIns, s.fault.rank.urgents, s.fault.rank.missed,
    s.fault.rank.revocations] BitVec.toNat ++
  tableRow 0x0100 4 (List.finRange 38) (Profile.field s.profile.staged) ++ [(0x0198, 4, s.profile.staged.writeDelay)] ++
  tableRow 0x0200 4 (List.finRange 38) (Profile.field s.profile.active) ++ [(0x0298, 4, s.profile.active.writeDelay)] ++
  [(0x02A0, 1, bit s.profile.valid)] ++
  tableRow 0x0500 1 allBanks fun b =>
    let x := s.banks.look b
    x.state.code + 4 * ((x.state.owner?.map fun o => o.port.val).getD 0) + 16 * bit x.state.isContended + 32 * bit x.revokedFrom.isSome

/-- Table 13-7, the rank status view at 0040H. -/
def State.rankWindow (s : State) : List (Nat × Nat × Nat) :=
  let k := s.rank
  let f := s.refresh
  [(0x0040, 1, k.state.name.code.toNat), (0x0041, 1, k.state.phaseCode), (0x0042, 4, s.ckTo k.state.phaseEnd),
    (0x0046, 1, bit k.retained + 2 * bit k.stopPending + 4 * bit k.sleepBegun + 8 * bit k.state.exitWanted +
      16 * bit k.state.wakeWanted + 32 * bit s.calibration.shortDue),
    (0x0047, 1, k.idle.code), (0x0048, 4, s.ckTo k.idle.expiry), (0x004C, 4, s.ckTo k.state.residencyEnd)] ++
  tableRow 0x0050 1 allPorts (fun p => voteCode (k.votes.look p)) ++
  [(0x0054, 1, s.arbiter.pointer.val), (0x0055, 1, s.arbiter.lastGrant.classCode), (0x0056, 1, s.arbiter.lastGrant.port),
    (0x0057, 1, (s.holds.window.filter fun t => decide (s.time < t + s.prof.tWS)).length),
    (0x0058, 1, (s.holds.bursts.filter fun b => decide (s.time < b.start + 4)).length), (0x0059, 1, s.drain.phase.code),
    (0x005A, 1, bit s.drain.purposes.refresh + 2 * bit s.drain.purposes.calibrate + 4 * bit s.drain.purposes.sleep +
      8 * bit s.drain.purposes.stop),
    (0x005B, 1, bit s.drain.urgent), (0x005C, 2, s.ckTo s.drain.phase.deadline), (0x005E, 1, s.calibration.busy.code),
    (0x0060, 4, s.ckTo s.calibration.busy.finish), (0x0064, 4, s.ckTo s.calibration.lock),
    (0x0068, 1, (BitVec.ofInt 8 f.balance).toNat), (0x0069, 1, bit f.timer.isSome), (0x006A, 4, s.ckTo f.timer),
    (0x006E, 1, f.count), (0x006F, 1, f.thermal.code.toNat + 2 * bit f.thot)] ++
  tableRow 0x0070 2 allPorts fun p => ((f.table.look p).map fun t => (BitVec.ofInt 16 t).toNat).getD 0x8000

/-- Table 13-8, the port status view of a port at 0400H + 40H × p; what a DOWN port has not reads 0. -/
def State.portWindow (s : State) (p : Port) : List (Nat × Nat × Nat) :=
  let a := 0x0400 + 0x40 * p.val
  let l := s.links.look p
  let q := s.queues.look p
  let m := s.mover.ports.look p
  let n := s.fault.ports.look p
  let up := l.session.laneUp
  let head (f : Entry → Nat) : Nat := (q.entries.head?.map f).getD 0
  [(a, 1, l.session.code), (a + 0x01, 1, ((s.epoch? p).getD 0).toNat), (a + 0x02, 1, if up then l.expected.toNat else 0),
    (a + 0x03, 1, bit (up && l.resync) + 2 * bit (l.session.isLeaving && s.nothingInHand p) + 4 * bit l.session.report),
    (a + 0x04, 2, min 65535 l.outbound.length), (a + 0x06, 1, s.epochCounter.toNat), (a + 0x07, 1, q.entries.length),
    (a + 0x08, 1, q.outstanding.length), (a + 0x09, 1, head fun e => e.tag.toNat), (a + 0x0A, 1, head fun e => e.request.code),
    (a + 0x0B, 1, head fun e => e.bank.val), (a + 0x0C, 1, head fun e => bit e.aged),
    (a + 0x0D, 1, head fun e => waitCode e.waiting), (a + 0x0E, 1, m.slots.count WriteSlot.isHeld),
    (a + 0x0F, 1, m.slots.count WriteSlot.isIssued), (a + 0x10, 1, m.spaces.count ReadSpace.isAwaiting),
    (a + 0x11, 1, m.spaces.count ReadSpace.isBuffered), (a + 0x12, 1, m.slots.count (s.slotEnded p)),
    (a + 0x13, 1, m.spaces.count (s.spaceEnded p)), (a + 0x20, 4, n.accepted.toNat), (a + 0x24, 4, n.refused.toNat),
    (a + 0x28, 4, n.revocations.toNat), (a + 0x2C, 4, n.discarded.toNat)]

/-- The whole window as Tables 13-6 to 13-8 give it: address, size, value. -/
def State.window (s : State) : List (Nat × Nat × Nat) :=
  s.plainWindow ++ s.rankWindow ++ allPorts.flatMap s.portWindow

/-- The codes of the named values in the views, each from its first code on in the order of its table (R175, Tables 13-5, 13-7 and
13-8). -/
def ViewCodes : Prop :=
  [CommandStatus.ok, .notOffline, .noProfile, .notRunning].map CommandStatus.code = [0, 1, 2, 3] ∧
    [PopStatus.ok, .listEmpty].map PopStatus.code = [0, 4] ∧
    (∀ n, [CommitStatus.none, .commitOk, .commitRejected n, .notOffline].map CommitStatus.code = [0, 1, 2, 3] ∧
      [CommitStatus.none, .commitOk, .commitRejected n, .notOffline].map CommitStatus.check = [0, 0, n, 0]) ∧
    [RankStateName.offline, .bringUp, .active, .powerDown, .sleep, .waking, .stopping].map RankStateName.code =
      [0, 1, 2, 3, 4, 5, 6] ∧
    (∀ x t e m i, [BringUpPhase.resetHold t, .clockSettle t, .exitWait e, .modeLoad m, .longCal i].map
      (fun f => (RankState.bringUp x f).phaseCode) = [1, 2, 3, 4, 5]) ∧
    (∀ t, [IdleTimer.stopped, .running t, .expired].map IdleTimer.code = [0, 1, 2] ∧
      [DrainPhase.none, .grace t, .closing, .service].map DrainPhase.code = [0, 1, 2, 3] ∧
      [CalBusy.none, .short t, .long t].map CalBusy.code = [0, 1, 2]) ∧
    [some Vote.awake, some .voted, none].map voteCode = [0, 1, 0xFF] ∧
    (∀ p, [LastGrant.none, .rankOperation, .revocationClose, .agedRequest p, .request p].map
        (fun g => (g.classCode, g.port)) = [(0, 0), (1, 0), (2, 0), (3, p.val), (4, p.val)]) ∧
    [Thermal.normal, .hot].map Thermal.code = [0, 1] ∧
    (∀ e tag asked report, [Session.down, .linked, .joined e, .leaving e tag asked report].map Session.code = [0, 1, 2, 3]) ∧
    (∀ row column ac slot, [Request.rowOpen row, .colRead row column ac, .colWrite row column ac slot, .rowClose].map
      Request.code = [0x10, 0x11, 0x12, 0x13]) ∧
    [none, some WaitReason.contention, some .holds, some .drain, some .lock, some .returnFull, some .rankState].map waitCode =
      [0, 1, 2, 3, 4, 5, 6] ∧
    (∀ l r, [BankState.closed, .opened l, .revoking r].map BankState.code = [0, 1, 2]) ∧
    [FaultKind.portLost, .portRejoin, .leaseExpired, .drainRevoke, .refreshOverrun, .thermalHot, .thermalClear, .frameError,
      .listOverflow].map FaultKind.code = [1, 2, 3, 4, 5, 6, 7, 8, 9] ∧
    (∀ e n m p, [FaultDetail.epoch e, .extensions n, .reason .drain, .reason .stop, .missed m, .cause .thot, .cause (.report p),
      .cause (.sessionEnd p), .crc, .sequence, .dropped n].map FaultDetail.code =
        [e.toNat, n, 2, 5, m.toNat, 1, 2, 3, 1, 2, n])

/-! ### Assessment (R54, R124) -/

/-- What the end of a happening leaves: the idle timer STOPPED exactly while its conditions do not hold, every front entry that
is a candidate waiting for its first unmet condition or ready, every front entry that waits for its bank in CONTENTION. -/
def State.Assessed (s : State) : Prop :=
  (s.rank.idle = .stopped ↔ s.idleTimerHolds = false) ∧
    ∀ p b e, s.front p b = some e →
      (s.outcome p e = .candidate → e.waiting = s.unmet p e) ∧
        (∀ contend, s.outcome p e = .wait contend → e.waiting = some .contention)

/-! ### Thermal state (R102) -/

/-- The thermal state of `t` is what R102 gives from the state of `s` and the table and level of `t`. -/
def ThermalRule (s t : State) : Prop :=
  t.refresh.thermal = .hot ↔
    (s.refresh.thermal = .normal ∧
        (t.refresh.thot = true ∨ ∃ p x, t.refresh.table.look p = some x ∧ (s.prof.threshold : Int) ≤ x)) ∨
      (s.refresh.thermal = .hot ∧
        (t.refresh.thot = true ∨ ∃ p x, t.refresh.table.look p = some x ∧ (s.prof.threshold : Int) - 5 ≤ x))

/-! ### Invariants -/

/-- The Fault Unit: at most 16 records, the overflow flag only with a full list, the count 0 without the flag and at most 255,
ALERT as R168 gives it (R165, R166, R168). -/
def FaultUnit.Inv (f : FaultUnit) : Prop :=
  f.list.length ≤ 16 ∧ (f.overflow = true → f.list.length = 16) ∧ (f.overflow = false → f.overflowCount = 0) ∧
    f.overflowCount ≤ 255 ∧ (f.alert = true ↔ ∃ r ∈ f.list, f.mask.getLsbD r.kind.bit = true)

/-- The Profile Store: the active copy is the defaults or one that has passed every check, and a rejection names a check
(R156, R157, R162). -/
def State.ProfileInv (s : State) : Prop :=
  (s.profile.active = defaultProfile ∨ s.profile.active.firstFailure = none) ∧
    (s.profile.valid = false → s.profile.active = defaultProfile) ∧
    (∀ n, s.profile.commit = .commitRejected n → 1 ≤ n ∧ n ≤ 47)

/-- The Refresh Unit: the balance lies between −PIM and PPM, the count below CPR, and every temperature of the table between −40
and 150 (R89, R99, R100). -/
def State.RefreshInv (s : State) : Prop :=
  -(s.prof.pim : Int) ≤ s.refresh.balance ∧ s.refresh.balance ≤ s.prof.ppm ∧ s.refresh.count < s.prof.cpr ∧
    ∀ p x, s.refresh.table.look p = some x → -40 ≤ x ∧ x ≤ 150

/-- The rank states in which the interval timer runs (R90). -/
def RankState.runs : RankState → Bool
  | .active => true
  | .powerDown _ => true
  | .stopping => true
  | .offline => false
  | .bringUp _ _ => false
  | .sleep _ => false
  | .waking _ => false

/-- The rank states in which stop can be pending (R121, R122). -/
def RankState.mayHoldStop : RankState → Bool
  | .powerDown _ => true
  | .waking _ => true
  | .active => false
  | .stopping => false
  | .offline => false
  | .bringUp _ _ => false
  | .sleep _ => false

/-- The rank states in which the retained flag can be set: OFFLINE, and the retained bring-up before its exit (R118, R120,
R122, R123). -/
def RankState.mayBeRetained : RankState → Bool
  | .offline => true
  | .bringUp .retained (.clockSettle _) => true
  | .bringUp .retained (.exitWait none) => true
  | .bringUp _ _ => false
  | .active => false
  | .powerDown _ => false
  | .sleep _ => false
  | .waking _ => false
  | .stopping => false

/-- The rank's state and what hangs on it: the interval timer runs exactly in its states, the idle timer only in ACTIVE, stop
pending and the retained flag only where they can stand (R90, R121, R122, R124). -/
def State.RankInv (s : State) : Prop :=
  (s.refresh.timer.isSome = s.rank.state.runs) ∧ (s.rank.idle ≠ .stopped → s.rank.state = .active) ∧
    (s.rank.stopPending = true → s.rank.state.mayHoldStop = true) ∧
    (s.rank.retained = true → s.rank.state.mayBeRetained = true)

/-- The drain and what goes with it: no drain exactly with an empty purpose set, none in OFFLINE, urgent only with REFRESH,
SERVICE only with all banks CLOSED, SLEEP exactly while sleep begun is yes, CALIBRATE exactly while a short calibration is due,
STOP exactly in STOPPING (Table 5-1, R80, R84, R87, R106, Table 8-1). -/
def State.DrainInv (s : State) : Prop :=
  (s.drain.phase = .none ↔ s.drain.purposes = .empty) ∧ (s.rank.state = .offline → s.drain.phase = .none) ∧
    (s.drain.urgent = true → s.drain.purposes.refresh = true) ∧
    (s.drain.phase = .service → ∀ b, (s.banks.look b).state = .closed) ∧
    (s.drain.purposes.sleep = s.rank.sleepBegun) ∧ (s.drain.purposes.calibrate = s.calibration.shortDue) ∧
    (s.drain.purposes.stop = true ↔ s.rank.state = .stopping)

/-- The sessions: a current session has an epoch from 1 to 255, and a port has a sleep vote exactly while it has a current
session (Table 9-1, R127). -/
def State.SessionInv (s : State) : Prop :=
  ∀ p, s.epoch? p ≠ some 0 ∧ ((s.rank.votes.look p).isSome = s.current p)

/-- The Admission Queues: at most 16 entries, and no outstanding tag twice (R42, R46). -/
def State.QueueInv (s : State) : Prop :=
  ∀ p, (s.queues.look p).entries.length ≤ 16 ∧ (s.queues.look p).outstanding.Nodup

end Sys2Proof.Machine

namespace Sys2Proof

/-- The port and header of a command that is a sound inbound frame: the eleven requests, and a frame that is no request. -/
def Instr.header? : Instr → Option (Port × Header)
  | .join p h _ => some (p, h)
  | .leave p h => some (p, h)
  | .leaseExtend p h _ => some (p, h)
  | .cancel p h _ => some (p, h)
  | .sleepVote p h => some (p, h)
  | .wake p h => some (p, h)
  | .tempReport p h _ => some (p, h)
  | .rowOpen p h _ _ => some (p, h)
  | .colRead p h _ _ _ _ => some (p, h)
  | .colWrite p h _ _ _ _ _ => some (p, h)
  | .rowClose p h _ => some (p, h)
  | .badKindFrame p h kind length =>
    if (Instr.badKindFrame p h kind length).wellFormed then some (p, h) else none
  | _ => none

/-- Whether the kind of such a frame is JOIN (R137). -/
def Instr.isJoin : Instr → Bool
  | .join _ _ _ => true
  | .badKindFrame _ _ kind _ => kind == 0x01#8
  | _ => false

/-- A queued-kind request: its port, header, bank as received and what else it carries (R44). -/
def Instr.arrival? : Instr → Option (Port × Header × Byte × Machine.Arrival)
  | .rowOpen p h bank row => some (p, h, bank, .rowOpen row)
  | .colRead p h bank row column flags => some (p, h, bank, .colRead row column (flags.getLsbD 0))
  | .colWrite p h bank row column flags data => some (p, h, bank, .colWrite row column (flags.getLsbD 0) data)
  | .rowClose p h bank => some (p, h, bank, .rowClose)
  | _ => none

end Sys2Proof
end

