-- ==== Sys2Proof/Certificates/Slice0/Obligations.lean ====
section
/-! DEFINITION. The statements for the provers, from the numbered rules of the manual. -/

open Sys2Proof Sys2Proof.Machine

/-! ### The machine -/

/-- A step takes the command at the front of the queue and carries it out on the state with the queue's rest. The manual tells
behaviour as happenings taken one at a time (section 4.2); the queue of commands that bring them about is the model's choice of
assumption 7. -/
def Obligations.StepTakesFrontCommand : Prop :=
  ∀ (c : Instr) (rest : List Instr) (s : State), s.pending = c :: rest → step s = exec c { s with pending := rest }

/-- With no command waiting the block takes the happening that is due, or lets one ck pass with nothing on the command bus: the
model's choice of assumption 7. -/
def Obligations.IdleStepTakesDueHappeningOrOneCk : Prop :=
  ∀ s : State, s.pending = [] →
    (∀ c, s.dueHappening = some c → step s = exec c { s with freeIndex := s.freeIndex + 1 }) ∧
    (s.dueHappening = none →
      step s = .next { s with time := s.time + 1, arbiter := { s.arbiter with commandBus := none } })

/-- Every command completes in every state, and leaves the queue of commands and the free-value counter as they are. That a command
whose happening is not due completes too, with nothing changed, and that nothing stops the block is the model's choice of
assumption 2; that a power-on reset leaves the queue and the counter is that of assumptions 3 and 4. -/
def Obligations.EveryCommandAnswersNext : Prop :=
  ∀ (c : Instr) (s : State), ∃ t, exec c s = .next t ∧ t.pending = s.pending ∧ t.freeIndex = s.freeIndex

/-- What only some commands change: rank time (R1), the active copy (R156, R162), the staged copy (R156), the epoch counter
(R133, R139), the command status (R132) and the capture (R176). -/
def Obligations.PartsChangedOnlyByTheirCommands : Prop :=
  ∀ (c : Instr) (s t : State), exec c s = .next t → (∀ lanes thot, c ≠ .powerOnReset lanes thot) →
    t.time = s.time ∧
    (c ≠ .commit → t.profile.active = s.profile.active ∧ t.profile.valid = s.profile.valid ∧
      t.profile.commit = s.profile.commit) ∧
    ((∀ field byte value, c ≠ .stagedProfileWrite field byte value) → t.profile.staged = s.profile.staged) ∧
    ((∀ p h revision, c ≠ .join p h revision) → t.epochCounter = s.epochCounter) ∧
    (c ≠ .start → c ≠ .stop → t.rank.status = s.rank.status) ∧
    (c ≠ .softReset → (∀ address, c ≠ .registerCapture address) → t.capture = s.capture)

/-- The transitions of a bank's state field: which commands can make each (the table of R2, R85, R86, R79), that an OPEN bank that
stays OPEN keeps its row and owner, and that one revoked keeps them with its contended flag, for a reason of the command's own:
EXPIRED at its expiry, PORT_LOST at the loss or the rejoin of its owner's port, PORT_LEFT at the owner's leave, DRAIN or STOP at a
grace end, which falls in a command that cuts grace short or, with tGR equal to 0, in any that starts a drain. -/
def Obligations.BankStateTransitions : Prop :=
  ∀ (c : Instr) (s t : State) (b : Bank), exec c s = .next t → (∀ lanes thot, c ≠ .powerOnReset lanes thot) →
    c ≠ .softReset →
    ((s.banks.look b).state = .closed → (t.banks.look b).state ≠ .closed → c = .rowOpenIssued) ∧
    (∀ l, (s.banks.look b).state = .opened l → (t.banks.look b).state = .closed →
      c = .rowCloseIssued ∨ c = .colReadIssued ∨ c = .colWriteIssued) ∧
    (∀ l l', (s.banks.look b).state = .opened l → (t.banks.look b).state = .opened l' →
      l'.row = l.row ∧ l'.owner = l.owner) ∧
    (∀ l r, (s.banks.look b).state = .opened l → (t.banks.look b).state = .revoking r →
      r.row = l.row ∧ r.owner = l.owner ∧ (l.contended = true → r.contended = true) ∧
      (r.reason = .expired → c = .leaseExpiry b) ∧
      (r.reason = .portLost → c = .linkDown l.owner.port ∨ ∃ h revision, c = .join l.owner.port h revision) ∧
      (r.reason = .portLeft → c = .readyToLeave l.owner.port ∨ c = .leaveComplete l.owner.port) ∧
      (r.reason = .drain ∨ r.reason = .stop → c = .graceEnd ∨ c = .intervalTimerExpiry ∨ c = .stop ∨
        c = .powerDownExitIssued ∨ c = .wakeEnd ∨ s.prof.tGR = 0)) ∧
    (∀ r, (s.banks.look b).state = .revoking r → (t.banks.look b).state = .closed → c = .revocationCloseIssued) ∧
    (∀ r l, (s.banks.look b).state = .revoking r → (t.banks.look b).state ≠ .opened l)

/-- At most one grant falls in any ck: after the issue of what the arbiter grants, it grants nothing more at that rank time
(R60, R26). -/
def Obligations.OneGrantInAnyCk : Prop :=
  ∀ (s t : State) (g : Grant), s.grant = some g → exec g.command s = .next t → t.time = s.time ∧ t.grant = none

/-- The arbiter grants within the highest class that holds a ready offer, and within it as R64 to R67 order it: the one rank
operation; the lowest bank; the aged request that has waited longest, of those the port nearest the pointer, of its entries the
earliest in its queue; else the first port of the round with a ready request, and of its entries the earliest in its queue. -/
def Obligations.GrantFollowsTheClasses : Prop :=
  ∀ s : State,
    (∀ op, s.operationOffer = some op → s.operationReady op = true → s.grant = some (.operation op)) ∧
    ((∀ op, s.operationOffer = some op → s.operationReady op = false) →
      (∀ b, s.revocationReady b = true → (∀ b' < b, s.revocationReady b' = false) → s.grant = some (.revocation b)) ∧
      ((∀ b, s.revocationReady b = false) →
        (∀ aged p e, s.grant = some (.request aged p e) →
          e ∈ (s.queues.look p).entries ∧ s.isReady p e = true ∧ e.aged = aged ∧
          (∀ q, ∀ x ∈ (s.queues.look q).entries, s.isReady q x = true → x.aged = true →
            aged = true ∧ e.accepted ≤ x.accepted ∧
            (e.accepted = x.accepted → (p - s.arbiter.pointer).val ≤ (q - s.arbiter.pointer).val)) ∧
          (∃ before after, (s.queues.look p).entries = before ++ e :: after ∧
            (aged = true → ∀ x ∈ before, s.isReady p x = true → x.aged = true → e.accepted < x.accepted) ∧
            (aged = false → ∀ x ∈ before, s.isReady p x = false)) ∧
          (aged = false → ∀ q, ∀ x ∈ (s.queues.look q).entries, s.isReady q x = true →
            (p - s.arbiter.pointer).val ≤ (q - s.arbiter.pointer).val)) ∧
        ((∃ p, ∃ e ∈ (s.queues.look p).entries, s.isReady p e = true) → ∃ aged p e, s.grant = some (.request aged p e))))

/-- What is ready, and that nothing is granted which is not. An entry is ready exactly where it is its bank's candidate and meets the
conditions of Table 3-3, its command's holds of Table 2-4 among them (R37, R40, R53, R151); a revocation close exactly where its bank
is REVOKING and its close holds are met (R65); a rank operation is offered exactly as Table 4-2 and its owner's rule say, and is
ready exactly where the holds of R37 are met, with all banks CLOSED but for the exits (R64). Every grant meets these. So while a drain
is active no row opens (R77), while the lock window runs no read is issued (R113), and in OFFLINE and WAKING no request or rank
operation is granted (R72). That the command of an issue without its grant completes with nothing changed is the model's choice of
assumption 2, after R60; that tWS and nW are those of the active profile is assumption 26, the mark of a residency end that has been
taken assumption 8, and that a write yet to reach its data end is a slot ISSUED assumption 14. -/
def Obligations.NothingIssuedAgainstTheRank : Prop :=
  ∀ s : State,
    (s.drain.phase ≠ .none → exec .rowOpenIssued s = .next s) ∧
    (∀ t, s.calibration.lock = some t → s.time < t → exec .colReadIssued s = .next s) ∧
    (s.rank.state = .offline ∨ (∃ t, s.rank.state = .waking t) → ∀ g, s.grant = some g → ∃ b, g = .revocation b) ∧
    (∀ p e, s.isReady p e = true ↔ s.Candidate p e ∧ s.MayIssue p e) ∧
    (∀ b, s.revocationReady b = true ↔ s.RevocationMayIssue b) ∧
    (∀ op, s.operationOffer = some op ↔ s.Offers op) ∧
    (∀ op, s.operationReady op = true ↔ s.OperationMayIssue op) ∧
    (∀ aged p e, s.grantedRequest = some (aged, p, e) → s.Candidate p e ∧ s.MayIssue p e) ∧
    (∀ b, s.grantedRevocation = some b → s.RevocationMayIssue b) ∧
    (∀ op, s.grantedOperation = some op → s.Offers op ∧ s.OperationMayIssue op)

/-! ### Bytes -/

/-- Every request, built as a frame by Tables 13-1 and 13-2, reads back as the same command (R172, R173). -/
def Obligations.RequestFramesReadBack : Prop :=
  ∀ (c : Instr) (p : Port) (bytes : List Byte), frameOf c = some (p, bytes) → commandOfFrame p bytes = c

/-- A management write of one byte is always some command, well formed; it is a bad write exactly where the address is none that
Table 13-6 marks writable, or is the command register's with a code that names no command (R171, R175). -/
def Obligations.ManagementWritesAreCommands : Prop :=
  ∀ (mask : BitVec 9) (address : BitVec 16) (value : Byte),
    (commandOfWrite mask address value).wellFormed = true ∧
    ((∃ a v, commandOfWrite mask address value = .mgmtWriteBad a v) ↔
      ¬(address = 0x0010#16 ∨ (address = 0x0011#16 ∧ 1 ≤ value.toNat ∧ value.toNat ≤ 5) ∨ address = 0x0020#16 ∨
        address = 0x0021#16 ∨ (0x0100 ≤ address.toNat ∧ address.toNat < 0x0198)))

/-! ### Invariants -/

/-- Every step keeps the invariants of the Fault Unit, of the Profile Store and of the Refresh Unit. -/
def Obligations.FaultProfileAndRefreshInvariantsKept : Prop :=
  ∀ s t : State, s.fault.Inv → s.ProfileInv → s.RefreshInv → step s = .next t → t.fault.Inv ∧ t.ProfileInv ∧ t.RefreshInv

/-- Every step keeps the invariants of the rank state and of the drain. -/
def Obligations.RankAndDrainInvariantsKept : Prop :=
  ∀ s t : State, s.RankInv → s.DrainInv → step s = .next t → t.RankInv ∧ t.DrainInv

/-- Every step keeps the invariants of the sessions and of the queues. -/
def Obligations.SessionAndQueueInvariantsKept : Prop :=
  ∀ s t : State, s.SessionInv → s.QueueInv → step s = .next t → t.SessionInv ∧ t.QueueInv

/-- The state after reset meets every invariant. -/
def Obligations.ResetMeetsTheInvariants : Prop :=
  State.reset.fault.Inv ∧ State.reset.ProfileInv ∧ State.reset.RefreshInv ∧ State.reset.RankInv ∧ State.reset.DrainInv ∧
    State.reset.SessionInv ∧ State.reset.QueueInv

/-- Every command leaves the idle timer and the waiting-reasons of the front entries as R54 and R124 assess them. That both are
judged at the close of each happening, and which happenings assess nothing, is the reading of assumption 13. -/
def Obligations.AssessmentKeptByCommands : Prop :=
  ∀ (c : Instr) (s t : State), s.Assessed → exec c s = .next t → t.Assessed

/-! ### Resets -/

/-- Power-on reset: every part at its reset value, the ports LINKED or DOWN by their lanes; with THOT asserted at the release the
thermal state goes to HOT with its record (R101, R115; the lanes and the level as operands: assumption 3). -/
def Obligations.PowerOnResetState : Prop :=
  ∀ (lanes : Table Bool 4) (thot : Bool) (s : State), ∃ t, exec (.powerOnReset lanes thot) s = .next t ∧
    t.time = 0 ∧ t.epochCounter = 0 ∧ t.drain = ⟨.none, ⟨false, false, false, false⟩, false⟩ ∧
    (∀ b, t.banks.look b = ⟨.closed, none⟩) ∧ (∀ id, t.holds.holds.hold id = none) ∧ t.holds.window = [] ∧
    t.holds.bursts = [] ∧ t.arbiter = ⟨0, .none, none⟩ ∧ t.calibration = ⟨false, .none, none⟩ ∧
    t.rank = ⟨.offline, false, false, false, .stopped, Table.fill 4 none, .ok⟩ ∧
    t.profile = ⟨defaultProfile, defaultProfile, false, .none⟩ ∧ t.capture = none ∧ t.pending = s.pending ∧
    (∀ p, t.queues.look p = ⟨[], []⟩ ∧ (∀ i, (t.mover.ports.look p).slots.look i = .free) ∧
      (∀ i, (t.mover.ports.look p).spaces.look i = .free) ∧
      t.links.look p = ⟨if lanes.look p then .linked else .down, 0, false, 0, [], none⟩) ∧
    t.refresh = ⟨0, none, 0, Table.fill 4 none, thot, if thot then .hot else .normal⟩ ∧
    t.fault = ⟨if thot then [⟨.thermalHot, none, none, .cause .thot, 0⟩] else [], false, 0, 0x1FF#9, Table.fill 4 ⟨0, 0, 0, 0⟩,
      ⟨0, 0, 0, 0, 0⟩, .ok, false, thot⟩

/-- Soft reset: what it keeps, what it clears, and the retained flag it leaves (R170, R115). The level of the THOT line, which the
reset takes anew, is read from the level recorded before it (assumption 24). -/
def Obligations.SoftResetKeepsAndClears : Prop :=
  ∀ s : State, ∃ t, exec .softReset s = .next t ∧
    t.time = s.time ∧ t.epochCounter = s.epochCounter ∧ t.profile = s.profile ∧ t.rank.status = s.rank.status ∧
    t.fault.mgmtError = s.fault.mgmtError ∧ t.drain = ⟨.none, ⟨false, false, false, false⟩, false⟩ ∧
    (∀ b, t.banks.look b = ⟨.closed, none⟩) ∧ (∀ id, t.holds.holds.hold id = none) ∧ t.holds.window = [] ∧
    t.holds.bursts = [] ∧ t.arbiter.pointer = 0 ∧ t.arbiter.lastGrant = .none ∧ t.calibration = ⟨false, .none, none⟩ ∧
    t.rank.state = .offline ∧ t.rank.stopPending = false ∧ t.rank.sleepBegun = false ∧ t.rank.idle = .stopped ∧
    t.rank.votes = Table.fill 4 none ∧
    (t.rank.retained = true ↔ (∃ w, s.rank.state = .sleep w) ∨ (s.rank.state = .offline ∧ s.rank.retained = true)) ∧
    (∀ p, t.queues.look p = ⟨[], []⟩ ∧ (∀ i, (t.mover.ports.look p).slots.look i = .free) ∧
      (∀ i, (t.mover.ports.look p).spaces.look i = .free) ∧ (t.links.look p).outbound = [] ∧
      (t.links.look p).expected = 0 ∧ (t.links.look p).outSeq = 0 ∧ (t.links.look p).resync = false ∧
      (t.links.look p).session = if (s.links.look p).session = .down then .down else .linked) ∧
    t.refresh = ⟨0, none, 0, Table.fill 4 none, s.refresh.thot, if s.refresh.thot then .hot else .normal⟩ ∧
    t.fault.list = (if s.refresh.thot then [⟨.thermalHot, none, none, .cause .thot, s.time48⟩] else []) ∧
    t.fault.overflow = false ∧ t.fault.overflowCount = 0 ∧ t.fault.popStatus = .ok ∧ t.capture = none ∧
    t.fault.mask = 0x1FF#9 ∧ t.fault.ports = Table.fill 4 ⟨0, 0, 0, 0⟩ ∧
    t.fault.rank = ⟨0, 0, 0, 0, 0⟩ ∧ t.fault.alert = s.refresh.thot

/-! ### Links and sessions -/

/-- LINK_UP and LINK_DOWN without a session, and where they have no effect (R134). -/
def Obligations.LaneChangesWithoutASession : Prop :=
  ∀ (s : State) (p : Port),
    let l := s.links.look p
    let m := s.mover.ports.look p
    (l.session = .down →
      exec (.linkUp p) s = .next { s with links := s.links.put p ⟨.linked, 0, false, 0, [], l.lastFrame⟩ } ∧
        exec (.linkDown p) s = .next s) ∧
    (l.session ≠ .down → exec (.linkUp p) s = .next s) ∧
    (l.session = .linked → ∃ t, exec (.linkDown p) s = .next t ∧
      t.bare = State.bare { s with
        links := s.links.put p ⟨.down, 0, false, 0, [], l.lastFrame⟩
        mover := { s.mover with ports := s.mover.ports.put p { m with spaces := m.spaces.map ReadSpace.dropBuffered } } })

/-- LINK_DOWN in a session: it ends as lost, block by block (R143), here with another master awake. The thermal state follows the
table of R102, from NORMAL to HOT too, which is the choice of assumption 21 against the sentence of R104. -/
def Obligations.LinkDownEndsTheSession : Prop :=
  ∀ (s : State) (p : Port) (e : Byte), s.epoch? p = some e → s.rank.sleepBegun = false →
    (∃ q, q ≠ p ∧ s.rank.votes.look q = some .awake) →
    let l := s.links.look p
    ∃ t, exec (.linkDown p) s = .next t ∧
      t.links.look p = ⟨.down, 0, false, 0, [], l.lastFrame⟩ ∧ t.queues.look p = ⟨[], []⟩ ∧
      (t.mover.ports.look p).slots = (s.mover.ports.look p).slots.map WriteSlot.dropHeld ∧
      (t.mover.ports.look p).spaces = (s.mover.ports.look p).spaces.map ReadSpace.dropBuffered ∧
      (∀ b r, (s.banks.look b).state = .opened r → r.owner = ⟨p, e⟩ →
        ∃ x, (t.banks.look b).state = .revoking x ∧ x.row = r.row ∧ x.owner = ⟨p, e⟩ ∧ x.reason = .portLost) ∧
      (∀ b r, (s.banks.look b).state = .revoking r → r.owner = ⟨p, e⟩ →
        ∃ x, (t.banks.look b).state = .revoking x ∧ x.row = r.row ∧ x.owner = ⟨p, e⟩ ∧ x.reason = .portLost) ∧
      (∀ b, (s.banks.look b).state.owner? ≠ some ⟨p, e⟩ → (t.banks.look b).state = (s.banks.look b).state) ∧
      (∀ b x, (t.banks.look b).revokedFrom = some x ↔ (s.banks.look b).revokedFrom = some x ∧ x.owner ≠ ⟨p, e⟩) ∧
      (s.fault.list.length < 16 → ⟨.portLost, some p, none, .epoch e, s.time48⟩ ∈ t.fault.list) ∧
      t.rank.votes = s.rank.votes.put p none ∧ t.refresh.table = s.refresh.table.put p none ∧ ThermalRule s t ∧
      SameBut [.links, .queues, .banks, .mover, .refresh, .rank, .fault] s t

/-- A frame that fails its frame check is counted and recorded, and nothing in it is trusted; so is a sound frame out of sequence,
with one RESYNC while resync-pending is no (R135, R136); in DOWN no frame passes (R133), so every frame command changes nothing
there, FRAME_CRC_DISCARD too, and a request that is out of sequence is this happening whatever its kind (both assumption 11). -/
def Obligations.DamagedAndLostFramesAreDiscarded : Prop :=
  ∀ (s : State) (p : Port),
    let l := s.links.look p
    let n := s.fault.ports.look p
    let discarded (d : FaultDetail) : State := { s with
      fault := { s.fault.hand ⟨.frameError, some p, none, d, s.time48⟩ with
        ports := s.fault.ports.put p { n with discarded := n.discarded + 1 } } }
    (∀ bytes, l.session ≠ .down → (bytes.length < 6 ∨ bytes ≠ withCheck (bytes.take (bytes.length - 2))) →
      exec (.frameCrcDiscard p bytes) s = .next (discarded .crc)) ∧
    (∀ bytes, l.session = .down → exec (.frameCrcDiscard p bytes) s = .next s) ∧
    ∀ (seq : Byte) (c : Instr), (c = .frameOutOfSequence p seq ∨ ∃ h, c.header? = some (p, h) ∧ h.seq = seq) →
      (l.session = .down → exec c s = .next s) ∧
      (l.session ≠ .down → seq ≠ l.expected →
        (l.resync = true → exec c s = .next (discarded .sequence)) ∧
        (l.resync = false → exec c s = .next { discarded .sequence with
          links := s.links.put p { l with
            resync := true, outbound := l.outbound ++ [⟨(s.epoch? p).getD 0, 0, .resync l.expected⟩] } }))

/-- The session checks of a frame taken in sequence, and the frame of no request kind (R137, R173). -/
def Obligations.SessionChecksRefuse : Prop :=
  ∀ (s : State) (p : Port) (h : Header) (c : Instr), c.header? = some (p, h) →
    (s.links.look p).session ≠ .down → h.seq = (s.links.look p).expected →
    (s.epoch? p = none → c.isJoin = false → exec c s = .next (s.refusedWith p h.tag .noSession)) ∧
    (∀ e, s.epoch? p = some e → h.epoch ≠ e → c.isJoin = false → exec c s = .next (s.refusedWith p h.tag .staleSession)) ∧
    (∀ kind length, c = .badKindFrame p h kind length → (c.isJoin = true ∨ s.epoch? p = some h.epoch) →
      exec c s = .next (s.refusedWith p h.tag .badKind))

/-- A JOIN in LINKED: revision 1 opens a session under the next epoch, another revision is refused (R139). -/
def Obligations.JoinOpensASession : Prop :=
  ∀ (s : State) (p : Port) (h : Header) (revision : Byte), (s.links.look p).session = .linked →
    h.seq = (s.links.look p).expected →
    let l := s.links.look p
    let e : Byte := if s.epochCounter = 255#8 then 1#8 else s.epochCounter + 1
    (revision = 1#8 → ∃ t, exec (.join p h revision) s = .next t ∧
      t.bare = State.bare { s with
        epochCounter := e
        links := s.links.put p { l with
          session := .joined e, expected := l.expected + 1, resync := false
          outbound := l.outbound ++ [⟨e, h.tag, .welcome⟩, ⟨e, 0, .rankState s.rank.state.name⟩] }
        rank := { s.rank with
          votes := s.rank.votes.put p (some .awake), sleepBegun := false
          state := match s.rank.state with | .sleep _ => .sleep true | x => x }
        drain := s.drainAwake }) ∧
    (revision ≠ 1#8 → exec (.join p h revision) s = .next (s.answered p [⟨0, h.tag, .joinRefused⟩]))

/-- A JOIN of revision 1 in a session is a rejoin: the old session ends, its banks are revoked, and the new one opens with an
empty queue and nothing but WELCOME and RANK_STATE to send (R140, R143). -/
def Obligations.RejoinReplacesTheSession : Prop :=
  ∀ (s : State) (p : Port) (h : Header) (old : Byte), s.epoch? p = some old → h.seq = (s.links.look p).expected →
    let l := s.links.look p
    let e : Byte := if s.epochCounter = 255#8 then 1#8 else s.epochCounter + 1
    ∃ t, exec (.join p h 1#8) s = .next t ∧ t.epochCounter = e ∧
      t.links.look p = ⟨.joined e, l.expected + 1, false, l.outSeq,
        [⟨e, h.tag, .welcome⟩, ⟨e, 0, .rankState s.rank.state.name⟩], l.lastFrame⟩ ∧
      t.queues.look p = ⟨[], []⟩ ∧ t.rank.votes.look p = some .awake ∧ t.rank.sleepBegun = false ∧
      t.refresh.table.look p = none ∧
      (t.mover.ports.look p).slots = (s.mover.ports.look p).slots.map WriteSlot.dropHeld ∧
      (t.mover.ports.look p).spaces = (s.mover.ports.look p).spaces.map ReadSpace.dropBuffered ∧
      (∀ b, (s.banks.look b).state.owner? = some ⟨p, old⟩ →
        ∃ x, (t.banks.look b).state = .revoking x ∧ x.owner = ⟨p, old⟩ ∧ x.reason = .portLost) ∧
      (∀ b x, (t.banks.look b).revokedFrom = some x → x.owner ≠ ⟨p, old⟩) ∧
      (s.fault.list.length < 16 → ⟨.portRejoin, some p, none, .epoch old, s.time48⟩ ∈ t.fault.list) ∧
      SameBut [.epochCounter, .links, .queues, .banks, .drain, .mover, .refresh, .rank, .fault] s t

/-- LEAVE makes a session LEAVING and a second one changes nothing; when the session is ready to leave its banks are revoked
PORT_LEFT; when they are closed and every frame is sent the session ends with BYE, which carries the ended epoch and answers the
LEAVE with its tag (R138, R141, R142, R86; the two later steps here with another master awake). The model's readings: the two
later steps are commands of their own and count every slot and space of the port (assumption 10), with the mark of what has been
asked (assumption 8); the tag of the BYE is the first LEAVE's (assumption 25); the thermal state follows the table of R102
against the sentence of R104 (assumption 21). -/
def Obligations.LeaveAsksAndCompletes : Prop :=
  ∀ (s : State) (p : Port) (e : Byte),
    let l := s.links.look p
    (∀ h, s.takes p h →
      (l.session = .joined e → exec (.leave p h) s = .next { s with
        links := s.links.put p { l with session := .leaving e h.tag false false, expected := l.expected + 1, resync := false } }) ∧
      (∀ tag asked report, l.session = .leaving e tag asked report → exec (.leave p h) s = .next (s.answered p []))) ∧
    ((∃ q, q ≠ p ∧ s.rank.votes.look q = some .awake) → s.rank.sleepBegun = false →
      (∀ tag report, l.session = .leaving e tag false report → (s.queues.look p).entries = [] →
        (∀ i, (s.mover.ports.look p).slots.look i = .free) → (∀ i, (s.mover.ports.look p).spaces.look i = .free) →
        ∃ t, exec (.readyToLeave p) s = .next t ∧
          t.links.look p = { l with session := .leaving e tag true (!s.ownsAny ⟨p, e⟩) } ∧
          (∀ b, (s.banks.look b).state.owner? = some ⟨p, e⟩ →
            ∃ x, (t.banks.look b).state = .revoking x ∧ x.owner = ⟨p, e⟩ ∧ x.reason = .portLeft) ∧
          (∀ b, (s.banks.look b).state.owner? ≠ some ⟨p, e⟩ → (t.banks.look b) = (s.banks.look b)) ∧
          SameBut [.links, .queues, .banks, .mover, .rank, .fault] s t) ∧
      (∀ tag asked, l.session = .leaving e tag asked true → l.outbound = [] → s.ownsAny ⟨p, e⟩ = false →
        ∃ t, exec (.leaveComplete p) s = .next t ∧
          t.links.look p = { l with session := .linked, outbound := [⟨e, tag, .bye⟩] } ∧ t.queues.look p = ⟨[], []⟩ ∧
          t.rank.votes = s.rank.votes.put p none ∧ t.refresh.table = s.refresh.table.put p none ∧ ThermalRule s t ∧
          (∀ b, (t.banks.look b).state = (s.banks.look b).state) ∧
          SameBut [.links, .queues, .banks, .mover, .refresh, .rank, .fault] s t))

/-- LEASE_EXTEND: granted, or denied by the first check that fails (R13). -/
def Obligations.LeaseExtendAnswers : Prop :=
  ∀ (s : State) (p : Port) (h : Header) (bank : Byte), s.takes p h →
    let denied (r : DenialReason) := Host.Outcome.next (s.answered p [⟨h.epoch, h.tag, .extendDenied bank r⟩])
    (16 ≤ bank.toNat → exec (.leaseExtend p h bank) s = denied .notOwner) ∧
    ∀ b : Bank, bank.toNat = b.val →
      ((∀ l, (s.banks.look b).state = .opened l → l.owner ≠ ⟨p, h.epoch⟩) →
        exec (.leaseExtend p h bank) s = denied .notOwner) ∧
      ∀ l, (s.banks.look b).state = .opened l → l.owner = ⟨p, h.epoch⟩ →
        (l.contended = true → exec (.leaseExtend p h bank) s = denied .contended) ∧
        (l.contended = false → s.prof.maxExtensions ≤ l.extensions →
          exec (.leaseExtend p h bank) s = denied .limit) ∧
        (l.contended = false → l.extensions < s.prof.maxExtensions →
          exec (.leaseExtend p h bank) s = .next
            { s.answered p
                [⟨h.epoch, h.tag, .extended b s.prof.tLEASE (s.prof.maxExtensions - (l.extensions + 1))⟩] with
              banks := s.banks.put b { s.banks.look b with
                state := .opened { l with
                  deadline := s.time + s.prof.tLEASE, extensions := l.extensions + 1, warned := false } } })

/-- CANCEL of a queued tag removes its entry, frees its slot and answers CANCELLED under that tag; of another tag it answers
CANCEL_MISS (R57; the removal here with a master awake and no other entry of the port for the bank). -/
def Obligations.CancelRemovesOrMisses : Prop :=
  ∀ (s : State) (p : Port) (h : Header) (target : Byte), s.takes p h →
    let q := s.queues.look p
    let m := s.mover.ports.look p
    ((∀ e ∈ q.entries, e.tag ≠ target) →
      exec (.cancel p h target) s = .next (s.answered p [⟨h.epoch, h.tag, .cancelMiss target⟩])) ∧
    (∀ before e after, q.entries = before ++ e :: after → e.tag = target → (∀ x ∈ before, x.tag ≠ target) →
      (∀ x ∈ before ++ after, x.bank ≠ e.bank) → s.awakeMaster → ∃ t, exec (.cancel p h target) s = .next t ∧
      t.bare = State.bare { s.answered p [⟨h.epoch, target, .cancelled⟩] with
        queues := s.queues.put p ⟨before ++ after, q.outstanding.erase target⟩
        mover := match e.request with
          | .colWrite _ _ _ slot => { s.mover with ports := s.mover.ports.put p { m with slots := m.slots.put slot .free } }
          | _ => s.mover })

/-- SLEEP_VOTE and WAKE: the vote, the reply, unanimity after a change, the start of the drain where a sleep entry begins with none
active (R75, R76), and the wake of a sleeping rank (R127, R128, R131). -/
def Obligations.VotesAreTakenAndJudged : Prop :=
  ∀ (s : State) (p : Port) (h : Header), s.takes p h →
    (∃ t, exec (.sleepVote p h) s = .next t ∧ t.rank.votes = s.rank.votes.put p (some .voted) ∧
      Sent s t p [⟨h.epoch, h.tag, .voteNoted⟩] ∧
      (s.rank.votes.look p ≠ some .voted →
        t.rank.sleepBegun =
          State.unanimous { s with rank := { s.rank with votes := s.rank.votes.put p (some .voted) } }) ∧
      (s.rank.sleepBegun = false → t.rank.sleepBegun = true → t.drain.purposes.sleep = true ∧
        (s.drain.phase = .none → DrainStarted ⟨false, false, true, false⟩ false false s t)) ∧
      SameBut [.links, .queues, .banks, .drain, .mover, .rank, .fault] s t) ∧
    (∃ t, exec (.wake p h) s = .next t ∧ t.rank.votes = s.rank.votes.put p (some .awake) ∧
      t.links = (s.answered p [⟨h.epoch, h.tag, .wakeNoted⟩]).links ∧
      (s.rank.votes.look p ≠ some .awake → t.rank.sleepBegun = false ∧ t.drain = s.drainAwake) ∧
      ((∃ w, s.rank.state = .sleep w) → t.rank.state = .sleep true) ∧
      SameBut [.links, .queues, .drain, .rank] s t)

/-! ### Temperature -/

/-- A temperature report is recorded within −40 to 150 and evaluated, and answered after what a change sends (R100, R102,
R103). -/
def Obligations.TemperatureReportsAreEvaluated : Prop :=
  ∀ (s : State) (p : Port) (h : Header) (x : BitVec 16), s.takes p h →
    let y := max (-40) (min 150 x.toInt)
    ∃ t, exec (.tempReport p h x) s = .next t ∧ t.refresh.table = s.refresh.table.put p (some y) ∧
      t.refresh.thot = s.refresh.thot ∧ ThermalRule s t ∧ t.refresh.balance = s.refresh.balance ∧
      (t.refresh.thermal = s.refresh.thermal →
        t.links = (s.answered p [⟨h.epoch, h.tag, .tempNoted y t.refresh.thermal⟩]).links ∧ t.fault = s.fault ∧
        t.refresh.timer = s.refresh.timer ∧ SameBut [.links, .refresh, .queues, .rank] s t) ∧
      (t.refresh.thermal ≠ s.refresh.thermal →
        Sent s t p [⟨h.epoch, 0, .thermal t.refresh.thermal⟩, ⟨h.epoch, h.tag, .tempNoted y t.refresh.thermal⟩] ∧
        (∀ q e, q ≠ p → s.epoch? q = some e → Sent s t q [⟨e, 0, .thermal t.refresh.thermal⟩]) ∧
        (s.fault.list.length < 16 →
          ⟨if t.refresh.thermal = .hot then .thermalHot else .thermalClear, some p, none, .cause (.report p), s.time48⟩ ∈
            t.fault.list) ∧
        t.refresh.timer = if t.refresh.thermal = .hot then s.refresh.timer.map fun u => min u (s.time + s.prof.tRFI / 2)
          else s.refresh.timer)

/-- A change of the THOT line is recorded and evaluated, with the notices, the record and the timer of a change (R101, R102,
R103). -/
def Obligations.ThotChangesAreEvaluated : Prop :=
  ∀ (s : State) (c : Instr) (level : Bool), (c = .thotAsserted ∧ level = true ∨ c = .thotDeasserted ∧ level = false) →
    ∃ t, exec c s = .next t ∧ t.refresh.thot = level ∧ t.refresh.table = s.refresh.table ∧ ThermalRule s t ∧
      (t.refresh.thermal = s.refresh.thermal →
        t.refresh.timer = s.refresh.timer ∧ SameBut [.refresh, .queues, .rank] s t) ∧
      (t.refresh.thermal ≠ s.refresh.thermal →
        (∀ q e, s.epoch? q = some e → Sent s t q [⟨e, 0, .thermal t.refresh.thermal⟩]) ∧
        (s.fault.list.length < 16 →
          ⟨if t.refresh.thermal = .hot then .thermalHot else .thermalClear, none, none, .cause .thot, s.time48⟩ ∈
            t.fault.list) ∧
        t.refresh.timer = if t.refresh.thermal = .hot then s.refresh.timer.map fun u => min u (s.time + s.prof.tRFI / 2)
          else s.refresh.timer)

/-! ### Arrivals -/

/-- A queued-kind request is refused by the first arrival check that fails, and nothing else happens (R44, R59). -/
def Obligations.ArrivalRefusedInOrder : Prop :=
  ∀ (s : State) (c : Instr) (p : Port) (h : Header) (bank : Byte) (a : Arrival) (r : RefusalReason),
    c.arrival? = some (p, h, bank, a) → s.takes p h → FirstOf (s.arrivalFailures p h.tag bank a) r →
    ∃ t, exec c s = .next t ∧ t.bare = (s.refusedWith p h.tag r).bare

/-- A request that passes every arrival check joins its port's queue, and where evaluation finds it a candidate, or it is a
ROW_OPEN for a bank REVOKING under its own session, which waits and sets no contention (R49, R11), or it is not the front entry for
its bank, that is all (R45, R47, R127, R148). -/
def Obligations.AcceptedRequestJoinsTheQueue : Prop :=
  ∀ (s : State) (c : Instr) (p : Port) (h : Header) (bank : Byte) (a : Arrival) (b : Bank) (slot : Fin 8),
    c.arrival? = some (p, h, bank, a) → s.takes p h → s.Admits p h.tag bank a b slot →
    ((∃ e ∈ (s.queues.look p).entries, e.bank = b) ∨
      evaluate ⟨p, h.epoch⟩ (a.entry h.tag b slot s.time).request (s.banks.look b) = .candidate ∨
      ((∃ row, a = .rowOpen row) ∧ ∃ r, (s.banks.look b).state = .revoking r ∧ r.owner = ⟨p, h.epoch⟩)) →
    ∃ t, exec c s = .next t ∧ t.bare = (s.accepted p h b a slot).bare

/-- A request that evaluation answers is answered in the happening of its arrival, and its entry, tag and slot are gone (R48,
R52). -/
def Obligations.FrontEntryAnsweredAtArrival : Prop :=
  ∀ (s : State) (c : Instr) (p : Port) (h : Header) (bank : Byte) (a : Arrival) (b : Bank) (slot : Fin 8) (x : Answer),
    c.arrival? = some (p, h, bank, a) → s.takes p h → s.Admits p h.tag bank a b slot →
    (∀ e ∈ (s.queues.look p).entries, e.bank ≠ b) →
    evaluate ⟨p, h.epoch⟩ (a.entry h.tag b slot s.time).request (s.banks.look b) = .answer x →
    let n := s.fault.ports.look p
    ∃ t, exec c s = .next t ∧
      t.bare = State.bare { s.accepted p h b a slot with
        queues := s.queues
        mover := s.mover
        links := (s.answered p [⟨h.epoch, h.tag, match x with
          | .openHit => .openHit
          | .closeMoot => .closeMoot
          | .refused r => .refused r⟩]).links
        fault := { s.fault with ports := s.fault.ports.put p { n with
          accepted := n.accepted + 1
          refused := match x with | .refused _ => n.refused + 1 | _ => n.refused } } }

/-- The evaluation of a front entry by its kind and its bank's state (R49, R50, R51). -/
def Obligations.EvaluationTables : Prop :=
  ∀ (o : Owner) (row : Row) (column : Column) (ac : Bool) (slot : Fin 8) (b : BankEntry),
    let lost := b.revokedFrom = some ⟨o, row⟩
    (b.state = .closed →
      evaluate o (.rowOpen row) b = .candidate ∧ evaluate o .rowClose b = .answer .closeMoot ∧
      evaluate o (.colRead row column ac) b = .answer (.refused (if lost then .leaseLost else .notOwner))) ∧
    (∀ l, b.state = .opened l → l.owner = o →
      evaluate o (.rowOpen row) b = (if l.row = row then .answer .openHit else .answer (.refused .rowMismatch)) ∧
      evaluate o .rowClose b = .candidate ∧
      evaluate o (.colRead row column ac) b = (if l.row = row then .candidate else .answer (.refused .rowMismatch))) ∧
    (∀ l, b.state = .opened l → l.owner ≠ o →
      evaluate o (.rowOpen row) b = .wait true ∧ evaluate o .rowClose b = .answer .closeMoot ∧
      evaluate o (.colRead row column ac) b = .answer (.refused (if lost then .leaseLost else .notOwner))) ∧
    (∀ r, b.state = .revoking r →
      evaluate o (.rowOpen row) b = .wait (decide (r.owner ≠ o)) ∧ evaluate o .rowClose b = .answer .closeMoot ∧
      evaluate o (.colRead row column ac) b =
        .answer (.refused (if r.owner = o ∨ lost then .leaseLost else .notOwner))) ∧
    evaluate o (.colWrite row column ac slot) b = evaluate o (.colRead row column ac) b

/-- A ROW_OPEN that finds another session's bank waits and sets contention: an OPEN lease is capped once, its owner told, and
warned after that where the cap has moved the warning point to or before now (R10, R11, R12). That a cap which leaves the deadline as
it was sends no warning within this happening, even where the warning point is reached, is the reading of assumption 15. -/
def Obligations.ContentionCapsTheLease : Prop :=
  ∀ (s : State) (p : Port) (h : Header) (bank : Byte) (row : Row) (b : Bank), s.takes p h →
    s.Admits p h.tag bank (.rowOpen row) b 0 → (∀ e ∈ (s.queues.look p).entries, e.bank ≠ b) →
    let u := s.accepted p h b (.rowOpen row) 0
    let x := s.banks.look b
    (∀ l, x.state = .opened l → l.owner ≠ ⟨p, h.epoch⟩ →
      let cap := min l.deadline (s.time + s.prof.tCONT)
      let warn := cap < l.deadline ∧ 0 < s.prof.tWARN ∧ l.warned = false ∧ cap ≤ s.time + s.prof.tWARN
      let told := (s.epoch? l.owner.port).getD 0
      (l.contended = true → ∃ t, exec (.rowOpen p h bank row) s = .next t ∧ t.bare = u.bare) ∧
      (l.contended = false → warn → ∃ t, exec (.rowOpen p h bank row) s = .next t ∧
        t.bare = State.bare
          { u.withSent l.owner.port
              [⟨told, 0, .contended b (cap - s.time)⟩, ⟨told, 0, .leaseWarning b (cap - s.time)⟩] with
            banks := s.banks.put b { x with
              state := .opened { l with deadline := cap, contended := true, warned := true } } }) ∧
      (l.contended = false → ¬warn → ∃ t, exec (.rowOpen p h bank row) s = .next t ∧
        t.bare = State.bare { u.withSent l.owner.port [⟨told, 0, .contended b (cap - s.time)⟩] with
          banks := s.banks.put b { x with state := .opened { l with deadline := cap, contended := true } } })) ∧
    (∀ r, x.state = .revoking r → r.owner ≠ ⟨p, h.epoch⟩ → ∃ t, exec (.rowOpen p h bank row) s = .next t ∧
      t.bare = State.bare { u with banks := s.banks.put b { x with state := .revoking { r with contended := true } } })

/-- The link takes the head frame: it leaves the queue with the outbound sequence number and its frame check, and a DATA frame
frees its read-return space (R145, R153, R174), which the model's frame names (assumption 22). On an empty queue there is nothing
to take and nothing changes: the model's choice of assumption 2. -/
def Obligations.HeadFrameHandedToLink : Prop :=
  ∀ (s : State) (p : Port), (s.links.look p).session ≠ .down →
    let l := s.links.look p
    let m := s.mover.ports.look p
    (l.outbound = [] → exec (.handedToLink p) s = .next s) ∧
    (∀ f rest, l.outbound = f :: rest → ∃ t, exec (.handedToLink p) s = .next t ∧
      t.bare = State.bare { s with
        links := s.links.put p { l with
          outbound := rest, outSeq := l.outSeq + 1
          lastFrame := some (withCheck (l.outSeq :: f.epoch :: f.message.code :: f.tag :: f.message.body)) }
        mover := match f.message with
          | .data i _ => { s.mover with ports := s.mover.ports.put p { m with spaces := m.spaces.put i .free } }
          | _ => s.mover })

/-! ### What rank time brings about -/

/-- How a raise moves a hold (R24), and the two happenings that end what an issue left: a hold is met, a window entry leaves by the
tWS of the profile active now (R24, R39; assumption 26). A HOLD_MET before its instant changes nothing: the model's choice of
assumption 2. -/
def Obligations.HoldsRaisedMetAndWindowLeaves : Prop :=
  (∀ now t u, Hold.raise now t none = (if t ≤ now then none else some t) ∧ Hold.raise now t (some u) = some (max u t)) ∧
  ∀ s : State,
    (∀ id u, s.holds.holds.hold id = some u → u ≤ s.time → ∃ t, exec (.holdMet id) s = .next t ∧
      (∀ x, t.holds.holds.hold x = if x = id then none else s.holds.holds.hold x) ∧
      t.bare = State.bare { s with holds := { s.holds with holds := t.holds.holds } }) ∧
    (∀ id u, s.holds.holds.hold id = some u → s.time < u → exec (.holdMet id) s = .next s) ∧
    (∀ u rest, s.holds.window = u :: rest → u + s.prof.tWS ≤ s.time → ∃ t, exec .windowEntryLeaves s = .next t ∧
      t.bare = State.bare { s with holds := { s.holds with window := rest } })

/-- A lease is warned at its warning point, once for each deadline, and an entry that has waited tAGE becomes aged; neither changes
anything else (R10, R56). That a LEASE_WARNING of a lease with no warning to come changes nothing is the model's choice of
assumption 2. -/
def Obligations.WarningAndAgingChangeOneMark : Prop :=
  ∀ s : State,
    (∀ b l, (s.banks.look b).state = .opened l → 0 < s.prof.tWARN → l.warned = false → l.deadline ≤ s.time + s.prof.tWARN →
      exec (.leaseWarning b) s = .next
        { s.withSent l.owner.port [⟨(s.epoch? l.owner.port).getD 0, 0, .leaseWarning b (l.deadline - s.time)⟩] with
          banks := s.banks.put b { s.banks.look b with state := .opened { l with warned := true } } }) ∧
    (∀ b l, (s.banks.look b).state = .opened l → (l.warned = true ∨ s.prof.tWARN = 0) →
      exec (.leaseWarning b) s = .next s) ∧
    (∀ p before e after, (s.queues.look p).entries = before ++ e :: after → (∀ x ∈ before, x.tag ≠ e.tag) →
      e.aged = false → e.accepted + s.prof.tAGE ≤ s.time →
      exec (.entryAged p e.tag) s = .next
        { s with queues := s.queues.put p { s.queues.look p with entries := before ++ { e with aged := true } :: after } })

/-- A lease whose deadline is reached is taken back: REVOKING with reason EXPIRED, counted and recorded (R15, R17; here with a
master awake). -/
def Obligations.LeaseExpiryRevokes : Prop :=
  ∀ (s : State) (b : Bank) (l : Lease), (s.banks.look b).state = .opened l → l.deadline ≤ s.time → s.awakeMaster →
    let f := s.fault.hand ⟨.leaseExpired, some l.owner.port, some b, .extensions l.extensions, s.time48⟩
    ∃ t, exec (.leaseExpiry b) s = .next t ∧
      (∃ r, (t.banks.look b).state = .revoking r ∧ r.row = l.row ∧ r.owner = l.owner ∧ r.reason = .expired ∧
        (l.contended = true → r.contended = true)) ∧
      (t.banks.look b).revokedFrom = (s.banks.look b).revokedFrom ∧
      (∀ x, x ≠ b → t.banks.look x = s.banks.look x) ∧
      t.fault.list = f.list ∧ t.fault.overflow = f.overflow ∧ t.fault.overflowCount = f.overflowCount ∧
      t.fault.alert = f.alert ∧ t.fault.rank = { s.fault.rank with revocations := s.fault.rank.revocations + 1 } ∧
      (∀ q, (t.fault.ports.look q).revocations =
        (s.fault.ports.look q).revocations + if q = l.owner.port then 1 else 0) ∧
      SameBut [.links, .queues, .banks, .mover, .rank, .fault] s t

/-- At the grace deadline every OPEN bank is revoked, with reason STOP if the drain serves a STOP, else DRAIN, and the drain goes
to CLOSING, or to SERVICE where all banks are CLOSED (R79, R80; here with a master awake). -/
def Obligations.GraceEndRevokesOpenBanks : Prop :=
  ∀ (s : State) (d : Nat), s.drain.phase = .grace d → d ≤ s.time → s.awakeMaster →
    let reason : RevokeReason := if s.drain.purposes.stop then .stop else .drain
    ∃ t, exec .graceEnd s = .next t ∧
      (∀ b l, (s.banks.look b).state = .opened l → ∃ r, (t.banks.look b).state = .revoking r ∧ r.row = l.row ∧
        r.owner = l.owner ∧ r.reason = reason) ∧
      (∀ b, (s.banks.look b).state.isOpen = false → t.banks.look b = s.banks.look b) ∧
      ((∀ b, (s.banks.look b).state = .closed) → t.drain = { s.drain with phase := .service }) ∧
      ((∃ b, (s.banks.look b).state ≠ .closed) → t.drain = { s.drain with phase := .closing }) ∧
      (∀ b l, (s.banks.look b).state = .opened l → t.fault.list.length < 16 →
        ⟨.drainRevoke, some l.owner.port, some b, .reason reason, s.time48⟩ ∈ t.fault.list) ∧
      SameBut [.links, .queues, .banks, .drain, .mover, .rank, .fault] s t

/-- The interval timer's expiry: a refresh owed or missed, the timer running again, and REFRESH asked for where the balance calls
for it (R91, R92, R93), which with no drain active starts one: in GRACE until now + tGR, or in SERVICE with all 16 banks CLOSED, or
with grace end carried out at once where the refresh is urgent or tGR is 0, and one DRAIN notice to each port whose session owned an
OPEN bank (R75, R76; where grace end is carried out, here with a master awake). -/
def Obligations.IntervalTimerExpiry : Prop :=
  ∀ (s : State) (d : Nat), s.refresh.timer = some d → d ≤ s.time →
    let b := s.refresh.balance
    ∃ t, exec .intervalTimerExpiry s = .next t ∧
      t.refresh.timer = some (s.time + if s.refresh.thermal = .hot then s.prof.tRFI / 2 else s.prof.tRFI) ∧
      (b < s.prof.ppm → t.refresh.balance = b + 1 ∧ t.fault.rank.missed = s.fault.rank.missed) ∧
      ((s.prof.ppm : Int) ≤ b → t.refresh.balance = b ∧ t.fault.rank.missed = s.fault.rank.missed + 1 ∧
        (s.fault.list.length < 16 →
          ⟨.refreshOverrun, none, none, .missed (s.fault.rank.missed + 1), s.time48⟩ ∈ t.fault.list)) ∧
      t.fault.rank.urgents = s.fault.rank.urgents + (if b + 1 = s.prof.ppm then 1 else 0) ∧
      ((s.prof.lt : Int) ≤ t.refresh.balance → t.drain.purposes.refresh = true ∧
        (∀ r, s.rank.state = .powerDown r → t.rank.state = .powerDown { r with exitWanted := true })) ∧
      (b + 1 = s.prof.ppm → t.drain.purposes.refresh = true ∧ t.drain.urgent = true) ∧
      (s.drain.phase = .none → (s.prof.lt : Int) ≤ t.refresh.balance ∨ b + 1 = s.prof.ppm →
        (0 < s.prof.tGR ∧ b + 1 ≠ s.prof.ppm) ∨ s.awakeMaster →
        DrainStarted ⟨true, false, false, false⟩ (decide (b + 1 = s.prof.ppm)) (decide (b + 1 = s.prof.ppm)) s t) ∧
      (t.refresh.balance < s.prof.lt → b + 1 ≠ s.prof.ppm → t.drain = s.drain ∧ t.banks = s.banks) ∧
      t.refresh.count = s.refresh.count ∧ t.refresh.table = s.refresh.table ∧ t.refresh.thermal = s.refresh.thermal ∧
      SameBut [.links, .queues, .banks, .drain, .mover, .refresh, .rank, .fault] s t

/-- From the start of a WRITE burst the Data Mover drives the bytes of the burst's slot, two beats of 8 bytes in each of its 4 ck and
none outside them; from the start of a READ burst it takes the bus in; only the burst's mark changes beside (R33, R150). -/
def Obligations.BurstStarts : Prop :=
  ∀ (s : State) (b : Burst) (before after : List Burst), s.holds.bursts = before ++ b :: after →
    (∀ x ∈ before, x.started = true) → b.started = false → b.start ≤ s.time →
    let holds := { s.holds with bursts := before ++ { b with started := true } :: after }
    (∀ i d, b.direction = .write → (s.mover.ports.look b.port).slots.look i = .issued b.tag b.epoch d →
      (∀ j d', (s.mover.ports.look b.port).slots.look j = .issued b.tag b.epoch d' → j = i) →
      exec .writeBurstStart s = .next { s with holds := holds, mover := { s.mover with dataBus := .driving d b.start } } ∧
        (∀ j < 4, (DataBus.driving d b.start).beats (b.start + j) =
          [(d.toList.drop (16 * j)).take 8, (d.toList.drop (16 * j + 8)).take 8]) ∧
        ∀ now, now < b.start ∨ b.start + 4 ≤ now → (DataBus.driving d b.start).beats now = []) ∧
    (b.direction = .read →
      exec .readBurstStart s = .next { s with holds := holds, mover := { s.mover with dataBus := .receiving } })

/-- The data end of a write: the burst leaves the record, its slot is FREE, and if its session is current WRITTEN goes out and the
tag is released (R150, R46). That the data bus falls quiet unless another burst has started is the model's choice of
assumption 9. -/
def Obligations.WriteDataEnds : Prop :=
  ∀ (s : State) (b : Burst) (rest : List Burst) (i : Fin 8) (d : Block), s.holds.bursts = b :: rest → b.direction = .write →
    b.start + 4 ≤ s.time → (s.mover.ports.look b.port).slots.look i = .issued b.tag b.epoch d →
    (∀ j d', (s.mover.ports.look b.port).slots.look j = .issued b.tag b.epoch d' → j = i) →
    let m := s.mover.ports.look b.port
    let u : State := { s with
      holds := { s.holds with bursts := rest }
      mover := { ports := s.mover.ports.put b.port { m with slots := m.slots.put i .free }
                 dataBus := if ∃ x ∈ rest, x.started = true then s.mover.dataBus else .quiet } }
    let q := s.queues.look b.port
    ∃ t, exec .writeDataEnd s = .next t ∧
      (s.epoch? b.port = some b.epoch →
        t.bare = State.bare { u.withSent b.port [⟨b.epoch, b.tag, .written⟩] with
          queues := s.queues.put b.port { q with outstanding := q.outstanding.erase b.tag } }) ∧
      (s.epoch? b.port ≠ some b.epoch → t.bare = u.bare)

/-- The arrival of a read's data: the burst leaves the record, and if its session is current the space is BUFFERED with the data,
DATA goes out and the tag is released, else the data are dropped and the space is FREE (R152, R46). That the data bus falls quiet
unless another burst has started is the model's choice of assumption 9, the space the DATA frame names that of assumption 22. -/
def Obligations.ReadDataArrives : Prop :=
  ∀ (s : State) (b : Burst) (rest : List Burst) (i : Fin 4) (d : Block), s.holds.bursts = b :: rest → b.direction = .read →
    b.start + 4 ≤ s.time → (s.mover.ports.look b.port).spaces.look i = .awaiting b.tag b.epoch →
    (∀ j, (s.mover.ports.look b.port).spaces.look j = .awaiting b.tag b.epoch → j = i) →
    let m := s.mover.ports.look b.port
    let u (x : ReadSpace) : State := { s with
      holds := { s.holds with bursts := rest }
      mover := { ports := s.mover.ports.put b.port { m with spaces := m.spaces.put i x }
                 dataBus := if ∃ x ∈ rest, x.started = true then s.mover.dataBus else .quiet } }
    let q := s.queues.look b.port
    ∃ t, exec (.readDataArrival d) s = .next t ∧
      (s.epoch? b.port = some b.epoch →
        t.bare = State.bare { (u (.buffered b.tag b.epoch d)).withSent b.port [⟨b.epoch, b.tag, .data i d⟩] with
          queues := s.queues.put b.port { q with outstanding := q.outstanding.erase b.tag } }) ∧
      (s.epoch? b.port ≠ some b.epoch → t.bare = (u .free).bare)

/-! ### Issues -/

/-- The issue of a ROW_OPEN: the bank OPEN under a new lease of the requester, the holds and the window of a row-open, ISSUED, and
the entry and tag gone; exactly that where no other entry names the bank (R6, R20, R27, R39, R55; here with a master awake). -/
def Obligations.RowOpenIssued : Prop :=
  ∀ (s : State) (aged : Bool) (p : Port) (e : Entry) (row : Row), s.grantedRequest = some (aged, p, e) →
    e.request = .rowOpen row → s.awakeMaster →
    let b := e.bank
    let o : Owner := ⟨p, s.frameEpoch p⟩
    let f := s.prof
    ∃ t, exec .rowOpenIssued s = .next t ∧ t.arbiter = grantedArbiter aged p (.rowOpen b row) ∧
      Raised [(.bankOpen b, f.tOM + f.tCP), (.bankColumn b, f.tOC), (.bankClose b, f.tOM), (.groupOpen (groupOf b), f.tOSG),
        (.rankOpen, f.tOSO), (.command, 1)] s t ∧
      t.holds.window = s.holds.window ++ [s.time] ∧ t.holds.bursts = s.holds.bursts ∧
      (∃ l, (t.banks.look b).state = .opened l ∧ l.row = row ∧ l.owner = o ∧ l.extensions = 0 ∧
        (l.contended = false → l.deadline = s.time + f.tLEASE ∧ l.warned = false) ∧
        (l.contended = true → l.deadline = min (s.time + f.tLEASE) (s.time + f.tCONT))) ∧
      (∀ r, (t.banks.look b).revokedFrom = some r ↔ (s.banks.look b).revokedFrom = some r ∧ r.owner.port ≠ p) ∧
      (∀ x, x ≠ b → t.banks.look x = s.banks.look x) ∧ Sent s t p [⟨o.epoch, e.tag, .issued⟩] ∧
      (s.onlyFor p e → t.bare = State.bare { s.withSent p [⟨o.epoch, e.tag, .issued⟩] with
        queues := s.queues.put p ((s.queues.look p).issued e true)
        banks := t.banks, holds := t.holds, arbiter := t.arbiter } ∧
        (t.banks.look b).state = .opened ⟨row, o, s.time + f.tLEASE, 0, false, false⟩) ∧
      SameBut [.links, .queues, .banks, .holds, .arbiter, .mover, .rank, .fault] s t

/-- The issue of a COL_READ: the holds and the burst of a read, a space AWAITING, the tag still outstanding, and with auto-close
the bank CLOSED; exactly that where no other entry names the bank (R8, R29, R30, R55, R151; here with a master awake). -/
def Obligations.ColReadIssued : Prop :=
  ∀ (s : State) (aged : Bool) (p : Port) (e : Entry) (row : Row) (column : Column) (ac : Bool),
    s.grantedRequest = some (aged, p, e) → e.request = .colRead row column ac → s.awakeMaster →
    let b := e.bank
    let f := s.prof
    ∃ t, exec .colReadIssued s = .next t ∧ t.arbiter = grantedArbiter aged p (.readColumn b column ac) ∧
      Raised [(.groupColumn (groupOf b), f.tCSG), (.rankColumn, f.tCSO),
        if ac then (.bankOpen b, f.tRTC + f.tCP) else (.bankClose b, f.tRTC),
        (.write, max (f.readDelay + 4 + 2 - f.writeDelay) 1), (.command, 1)] s t ∧
      t.holds.window = s.holds.window ∧
      BurstAdded ⟨.read, p, s.frameEpoch p, e.tag, s.time + f.readDelay, false⟩ s t ∧
      (∃ i, (s.mover.ports.look p).spaces.look i = .free ∧
        (t.mover.ports.look p).spaces = (s.mover.ports.look p).spaces.put i (.awaiting e.tag (s.frameEpoch p))) ∧
      (t.banks.look b).state = (if ac then .closed else (s.banks.look b).state) ∧
      (∀ x, x ≠ b → t.banks.look x = s.banks.look x) ∧ (t.banks.look b).revokedFrom = (s.banks.look b).revokedFrom ∧
      (ac = true → s.drain.onClose (s.restClosed b) t.drain) ∧ (ac = false → t.drain = s.drain) ∧
      (s.onlyFor p e →
        (t.mover.ports.look p).slots = (s.mover.ports.look p).slots ∧
        t.bare = State.bare { s with
          queues := s.queues.put p ((s.queues.look p).issued e false)
          banks := t.banks, holds := t.holds, arbiter := t.arbiter, drain := t.drain
          mover := { s.mover with ports := s.mover.ports.put p (t.mover.ports.look p) } }) ∧
      SameBut [.links, .queues, .banks, .drain, .holds, .arbiter, .mover, .rank, .fault] s t

/-- The issue of a COL_WRITE: the holds and the burst of a write, its slot ISSUED, the tag still outstanding, and with auto-close
the bank CLOSED; exactly that where no other entry names the bank (R8, R31, R32, R55, R150; here with a master awake). -/
def Obligations.ColWriteIssued : Prop :=
  ∀ (s : State) (aged : Bool) (p : Port) (e : Entry) (row : Row) (column : Column) (ac : Bool) (slot : Fin 8)
    (tag epoch : Byte) (d : Block),
    s.grantedRequest = some (aged, p, e) → e.request = .colWrite row column ac slot →
    (s.mover.ports.look p).slots.look slot = .held tag epoch d → s.awakeMaster →
    let b := e.bank
    let f := s.prof
    ∃ t, exec .colWriteIssued s = .next t ∧ t.arbiter = grantedArbiter aged p (.writeColumn b column ac) ∧
      Raised [(.groupColumn (groupOf b), f.tCSG), (.rankColumn, f.tCSO), (.read, f.writeDelay + 4 + f.tWRD),
        if ac then (.bankOpen b, f.writeDelay + 4 + f.tWRC + f.tCP) else (.bankClose b, f.writeDelay + 4 + f.tWRC),
        (.command, 1)] s t ∧
      t.holds.window = s.holds.window ∧
      BurstAdded ⟨.write, p, s.frameEpoch p, e.tag, s.time + f.writeDelay, false⟩ s t ∧
      (t.banks.look b).state = (if ac then .closed else (s.banks.look b).state) ∧
      (∀ x, x ≠ b → t.banks.look x = s.banks.look x) ∧ (t.banks.look b).revokedFrom = (s.banks.look b).revokedFrom ∧
      (ac = true → s.drain.onClose (s.restClosed b) t.drain) ∧ (ac = false → t.drain = s.drain) ∧
      (s.onlyFor p e →
        (t.mover.ports.look p).slots = (s.mover.ports.look p).slots.put slot (.issued tag epoch d) ∧
        (t.mover.ports.look p).spaces = (s.mover.ports.look p).spaces ∧
        t.bare = State.bare { s with
          queues := s.queues.put p ((s.queues.look p).issued e false)
          banks := t.banks, holds := t.holds, arbiter := t.arbiter, drain := t.drain
          mover := { s.mover with ports := s.mover.ports.put p (t.mover.ports.look p) } }) ∧
      SameBut [.links, .queues, .banks, .drain, .holds, .arbiter, .mover, .rank, .fault] s t

/-- The issue of a ROW_CLOSE: the bank CLOSED with no revoked-from record set, the holds of a close, ISSUED, and the entry and tag
gone; exactly that where no other entry names the bank (R7, R28, R55, R80; here with a master awake). -/
def Obligations.RowCloseIssued : Prop :=
  ∀ (s : State) (aged : Bool) (p : Port) (e : Entry), s.grantedRequest = some (aged, p, e) → e.request = .rowClose →
    s.awakeMaster →
    let b := e.bank
    ∃ t, exec .rowCloseIssued s = .next t ∧ t.arbiter = grantedArbiter aged p (.close b) ∧
      OnlyRaised [(.bankOpen b, s.prof.tCP), (.command, 1)] s t ∧
      t.banks.look b = ⟨.closed, (s.banks.look b).revokedFrom⟩ ∧ (∀ x, x ≠ b → t.banks.look x = s.banks.look x) ∧
      s.drain.onClose (s.restClosed b) t.drain ∧ Sent s t p [⟨s.frameEpoch p, e.tag, .issued⟩] ∧
      (s.onlyFor p e → t.bare = State.bare { s.withSent p [⟨s.frameEpoch p, e.tag, .issued⟩] with
        queues := s.queues.put p ((s.queues.look p).issued e true)
        banks := t.banks, holds := t.holds, arbiter := t.arbiter, drain := t.drain }) ∧
      SameBut [.links, .queues, .banks, .drain, .holds, .arbiter, .mover, .rank, .fault] s t

/-- The issue of a revocation close: the bank CLOSED, the revoked-from record of an expiry, a drain or a STOP, REVOKED to a session
that is current, the leave report of one that now owns nothing (R19, R28, R80, R86; here with a master awake). -/
def Obligations.RevocationCloseIssued : Prop :=
  ∀ (s : State) (b : Bank) (r : Revocation), s.grantedRevocation = some b → (s.banks.look b).state = .revoking r →
    s.awakeMaster →
    let records := r.reason = .expired ∨ r.reason = .drain ∨ r.reason = .stop
    ∃ t, exec .revocationCloseIssued s = .next t ∧
      t.arbiter = { s.arbiter with lastGrant := .revocationClose, commandBus := some (.close b) } ∧
      OnlyRaised [(.bankOpen b, s.prof.tCP), (.command, 1)] s t ∧ (t.banks.look b).state = .closed ∧
      (records → (t.banks.look b).revokedFrom = some ⟨r.owner, r.row⟩) ∧
      (¬records → (t.banks.look b).revokedFrom = (s.banks.look b).revokedFrom) ∧
      (∀ x, x ≠ b → t.banks.look x = s.banks.look x) ∧ s.drain.onClose (s.restClosed b) t.drain ∧
      (s.epoch? r.owner.port = some r.owner.epoch →
        Sent s t r.owner.port [⟨r.owner.epoch, 0, .revoked b r.reason⟩]) ∧
      (∀ tag report, (s.links.look r.owner.port).session = .leaving r.owner.epoch tag true report →
        (∀ x, x ≠ b → (s.banks.look x).state.owner? ≠ some r.owner) →
        (t.links.look r.owner.port).session = .leaving r.owner.epoch tag true true) ∧
      SameBut [.links, .queues, .banks, .drain, .holds, .arbiter, .mover, .rank, .fault] s t

/-- The issue of a refresh: the balance, the counters and the count toward calibration, the holds of a refresh, and REFRESH served
when the balance of a service refresh reaches 0; a pull-in that makes a short calibration due starts the drain for it, at once in
SERVICE (R34, R75, R95, R97, R99). -/
def Obligations.RefreshIssued : Prop :=
  ∀ (s : State) (pullIn : Bool), s.grantedOperation = some (.refresh pullIn) →
    let d := if pullIn = false ∧ s.refresh.balance = 1 then
      s.drain.without { s.drain.purposes with refresh := false } else s.drain
    let c := s.fault.rank
    let c' := { c with refreshes := c.refreshes + 1, pullIns := c.pullIns + if pullIn then 1 else 0 }
    ∃ t, exec .refreshIssued s = .next t ∧
      t.arbiter = { s.arbiter with lastGrant := .rankOperation, commandBus := some .refresh } ∧
      OnlyRaised (allBanks.map (fun b => (.bankOpen b, s.prof.tRFB)) ++ [(.rankOperation, s.prof.tRFB), (.command, 1)]) s t ∧
      t.refresh.balance = s.refresh.balance - 1 ∧ t.fault.rank = c' ∧
      (s.refresh.count + 1 < s.prof.cpr → t.bare = State.bare { s with
        refresh := { s.refresh with balance := s.refresh.balance - 1, count := s.refresh.count + 1 }
        fault := { s.fault with rank := c' }, drain := d, holds := t.holds, arbiter := t.arbiter }) ∧
      (s.prof.cpr ≤ s.refresh.count + 1 → t.refresh.count = 0 ∧ t.calibration.shortDue = true ∧
        (s.calibration.shortDue = false → t.drain.purposes.calibrate = true ∧
          (s.drain.phase = .none → t.drain = ⟨.service, ⟨false, true, false, false⟩, false⟩))) ∧
      SameBut [.links, .queues, .banks, .drain, .holds, .arbiter, .mover, .refresh, .calibration, .rank, .fault] s t

/-- The issue of a calibration or a mode set: the command hold for its whole time, the calibration busy, CALIBRATE served by a
short one, LONG_CAL's one long one issued, MODE_LOAD moved on with RD or WD in the word (R35, R107, R110, R119, R120, R158). -/
def Obligations.CalibrationsAndModeSetsIssued : Prop :=
  ∀ s : State,
    let arb (c : BusCommand) : Arbiter := { s.arbiter with lastGrant := .rankOperation, commandBus := some c }
    let f := s.prof
    (s.grantedOperation = some .shortCalibration → ∃ t, exec .shortCalibrationIssued s = .next t ∧
      OnlyRaised [(.command, max 1 f.tCS)] s t ∧ t.bare = State.bare { s with
        calibration := { s.calibration with shortDue := false, busy := .short (s.time + f.tCS) }
        drain := s.drain.without { s.drain.purposes with calibrate := false }
        holds := t.holds, arbiter := arb .shortCalibration }) ∧
    (s.grantedOperation = some .longCalibration → ∃ t path, exec .longCalibrationIssued s = .next t ∧
      s.rank.state = .bringUp path (.longCal false) ∧ OnlyRaised [(.command, max 1 f.tCL)] s t ∧ t.bare = State.bare { s with
        calibration := { s.calibration with busy := .long (s.time + f.tCL) }
        rank := { s.rank with state := .bringUp path (.longCal true) }
        holds := t.holds, arbiter := arb .longCalibration }) ∧
    (s.grantedOperation = some (.modeSet .latency) → ∃ t path, exec .modeSetIssued s = .next t ∧
      s.rank.state = .bringUp path (.modeLoad .latencyNext) ∧ OnlyRaised [(.command, max 1 f.tMS)] s t ∧
      t.bare = State.bare { s with
        rank := { s.rank with state := .bringUp path (.modeLoad .writeNext) }
        holds := t.holds, arbiter := arb (.modeSet .latency f.readDelay) }) ∧
    (s.grantedOperation = some (.modeSet .write) → ∃ t path, exec .modeSetIssued s = .next t ∧
      s.rank.state = .bringUp path (.modeLoad .writeNext) ∧ OnlyRaised [(.command, max 1 f.tMS)] s t ∧
      t.bare = State.bare { s with
        rank := { s.rank with
          state := .bringUp path (if path = .full then .longCal false else .modeLoad (.settling (s.time + f.tMS))) }
        holds := t.holds, arbiter := arb (.modeSet .write f.writeDelay) })

/-- The issue of a power-down entry, and of an exit without and with a STOP pending (R36, R117, R121, R125, R126; the entry and the
plain exit here with a master awake). -/
def Obligations.PowerDownEntryAndExitIssued : Prop :=
  ∀ s : State,
    let arb (c : BusCommand) : Arbiter := { s.arbiter with lastGrant := .rankOperation, commandBus := some c }
    (s.grantedOperation = some .powerDownEntry → s.awakeMaster → ∃ t, exec .powerDownEntryIssued s = .next t ∧
      OnlyRaised [(.command, 1)] s t ∧ t.rank.idle = .stopped ∧ t.bare = State.bare { s.told (.rankState .powerDown) with
        rank := { s.rank with state := .powerDown ⟨s.time + s.prof.tPDM, false, false⟩ }
        holds := t.holds, arbiter := arb .powerDownEntry }) ∧
    (s.grantedOperation = some .powerDownExit →
      (s.rank.stopPending = false → s.awakeMaster → ∃ t, exec .powerDownExitIssued s = .next t ∧
        OnlyRaised [(.command, max 1 s.prof.tPDX)] s t ∧ t.bare = State.bare { s.told (.rankState .active) with
          rank := { s.rank with state := .active }
          holds := t.holds, arbiter := arb .powerDownExit }) ∧
      (s.rank.stopPending = true → ∃ t, exec .powerDownExitIssued s = .next t ∧
        OnlyRaised [(.command, max 1 s.prof.tPDX)] s t ∧ t.arbiter = arb .powerDownExit ∧ t.rank.state = .stopping ∧
        t.rank.stopPending = false ∧ t.drain.purposes.stop = true ∧ (∀ p, (t.queues.look p).entries = []) ∧
        (∀ p e, s.epoch? p = some e → Sent s t p [⟨e, 0, .rankState .stopping⟩]) ∧
        SameBut [.links, .queues, .banks, .drain, .holds, .arbiter, .mover, .rank, .fault] s t))

/-- The issue of a self-refresh entry: SLEEP with the interval timer STOPPED, or with a STOP served OFFLINE and retained (R36, R82,
R90, R123, R130). -/
def Obligations.SelfRefreshEntryIssued : Prop :=
  ∀ s : State, s.grantedOperation = some .selfRefreshEntry →
    let arb : Arbiter := { s.arbiter with lastGrant := .rankOperation, commandBus := some .selfRefreshEntry }
    (s.drain.purposes = ⟨false, false, true, false⟩ →
      ∃ t, exec .selfRefreshEntryIssued s = .next t ∧ OnlyRaised [(.command, 1)] s t ∧
        t.bare = State.bare { s.told (.rankState .sleep) with
          rank := { s.rank with state := .sleep false, sleepBegun := false }
          refresh := { s.refresh with timer := none }
          drain := ⟨.none, ⟨false, false, false, false⟩, false⟩, holds := t.holds, arbiter := arb }) ∧
    (s.drain.purposes.stop = true →
      ∃ t, exec .selfRefreshEntryIssued s = .next t ∧ OnlyRaised [(.command, 1)] s t ∧
        t.bare = State.bare { s.told (.rankState .offline) with
          rank := { s.rank with
            state := .offline, retained := true, stopPending := false, sleepBegun := false
            votes := s.rank.votes.map fun v => v.map fun _ => .awake }
          refresh := { s.refresh with timer := none }
          calibration := { s.calibration with shortDue := false, lock := none }
          drain := ⟨.none, ⟨false, false, false, false⟩, false⟩, holds := t.holds, arbiter := arb })

/-- The issue of a self-refresh exit, from SLEEP to WAKING or within EXIT_WAIT with the retained flag clear: every vote AWAKE, the
lock window RUNNING, a short calibration due with the drain started for it, the balance 0 (R36, R75, R90, R108, R112, R120, R127,
R131). -/
def Obligations.SelfRefreshExitIssued : Prop :=
  ∀ s : State, s.grantedOperation = some .selfRefreshExit →
    let done := s.time + (s.prof.tRFB + 8)
    ∃ t, exec .selfRefreshExitIssued s = .next t ∧
      t.arbiter = { s.arbiter with lastGrant := .rankOperation, commandBus := some .selfRefreshExit } ∧
      OnlyRaised [(.command, s.prof.tRFB + 8)] s t ∧
      (∀ w, s.rank.state = .sleep w → t.rank.state = .waking done ∧ t.rank.retained = s.rank.retained ∧
        (∀ p e, s.epoch? p = some e → Sent s t p [⟨e, 0, .rankState .waking⟩])) ∧
      (∀ path, s.rank.state = .bringUp path (.exitWait none) →
        t.rank.state = .bringUp path (.exitWait (some done)) ∧ t.rank.retained = false) ∧
      (∀ p, t.rank.votes.look p = (s.rank.votes.look p).map fun _ => .awake) ∧
      t.calibration = { s.calibration with shortDue := true, lock := some (s.time + s.prof.tLOCK) } ∧
      (s.calibration.shortDue = false → t.drain.purposes.calibrate = true ∧
        (s.drain.phase = .none → DrainStarted ⟨false, true, false, false⟩ false false s t)) ∧
      t.refresh = { s.refresh with balance := 0 } ∧
      SameBut [.links, .queues, .banks, .drain, .holds, .arbiter, .mover, .refresh, .calibration, .rank, .fault] s t

/-! ### Phases, timers and the wake -/

/-- The ends of the bring-up phases and of the calibrations and the lock window: what each end makes of the rank state, and the
interval timer that starts with ACTIVE (R90, R107, R110, R112, R119, R120; ACTIVE here with a master awake). -/
def Obligations.PhasesEnd : Prop :=
  ∀ (s : State) (d : Nat), d ≤ s.time →
    let active : State := { s.told (.rankState .active) with
      rank := { s.rank with state := .active }
      refresh := { s.refresh with
        timer := some (s.time + if s.refresh.thermal = .hot then s.prof.tRFI / 2 else s.prof.tRFI) } }
    let moved (r : RankState) : Host.Outcome State Fault Refusal := .next { s with rank := { s.rank with state := r } }
    (∀ path, s.rank.state = .bringUp path (.resetHold d) →
      exec .resetHoldEnd s = moved (.bringUp path (.clockSettle (s.time + s.prof.tSET)))) ∧
    (s.rank.state = .bringUp .full (.clockSettle d) →
      exec .clockSettleEnd s = moved (.bringUp .full (.modeLoad .latencyNext))) ∧
    (s.rank.state = .bringUp .retained (.clockSettle d) →
      exec .clockSettleEnd s = moved (.bringUp .retained (.exitWait none))) ∧
    (∀ path, s.rank.state = .bringUp path (.exitWait (some d)) →
      exec .exitWaitEnd s = moved (.bringUp path (.modeLoad .latencyNext))) ∧
    (∀ path, s.rank.state = .bringUp path (.modeLoad (.settling d)) → s.awakeMaster →
      ∃ t, exec .modeLoadEnd s = .next t ∧ t.bare = active.bare) ∧
    (s.calibration.busy = .long d →
      (∀ path issued, s.rank.state = .bringUp path (.longCal issued) → s.awakeMaster →
        ∃ t, exec .longCalBusyEnd s = .next t ∧
          t.bare = State.bare { active with calibration := { s.calibration with busy := .none } }) ∧
      ((∀ path issued, s.rank.state ≠ .bringUp path (.longCal issued)) →
        ∃ t, exec .longCalBusyEnd s = .next t ∧
          t.bare = State.bare { s with calibration := { s.calibration with busy := .none } })) ∧
    (s.calibration.busy = .short d → ∃ t, exec .shortCalBusyEnd s = .next t ∧
      t.bare = State.bare { s with calibration := { s.calibration with busy := .none } }) ∧
    (s.calibration.lock = some d → ∃ t, exec .lockEnd s = .next t ∧
      t.bare = State.bare { s with calibration := { s.calibration with lock := none } })

/-- The idle timer expires (R124), and a wake ends in ACTIVE, with a pending STOP carried out at once (R122, R131; a wake with no STOP
pending only with a master awake). The clause of RESIDENCY_END is the model's own, not the manual's: the happening sets the mark
that it has been taken, which no table names, and nothing else (assumption 8, DEDUCED; R126 gives it no effect of its own). -/
def Obligations.IdleResidencyAndWakeEnd : Prop :=
  ∀ (s : State) (d : Nat), d ≤ s.time →
    (s.rank.idle = .running d → exec .idleTimerExpiry s = .next { s with rank := { s.rank with idle := .expired } }) ∧
    (∀ wanted, s.rank.state = .powerDown ⟨d, false, wanted⟩ →
      exec .residencyEnd s = .next { s with rank := { s.rank with state := .powerDown ⟨d, true, wanted⟩ } }) ∧
    (s.rank.state = .waking d →
      (s.rank.stopPending = false → s.awakeMaster → ∃ t, exec .wakeEnd s = .next t ∧
        t.bare = State.bare { s.told (.rankState .active) with
          rank := { s.rank with state := .active }
          refresh := { s.refresh with
            timer := some (s.time + if s.refresh.thermal = .hot then s.prof.tRFI / 2 else s.prof.tRFI) } }) ∧
      (s.rank.stopPending = true → ∃ t, exec .wakeEnd s = .next t ∧ t.rank.state = .stopping ∧
        t.rank.stopPending = false ∧ t.drain.purposes.stop = true ∧ (∀ p, (t.queues.look p).entries = []) ∧
        (∀ p e, s.epoch? p = some e → Sent s t p [⟨e, 0, .rankState .active⟩, ⟨e, 0, .rankState .stopping⟩]) ∧
        SameBut [.links, .queues, .banks, .drain, .mover, .refresh, .rank, .fault] s t))

/-! ### The management port -/

/-- START: refused outside OFFLINE or without a valid profile, else the bring-up begins, retained where the flag says so (R118,
R90, R99, R117). -/
def Obligations.StartBeginsTheBringUp : Prop :=
  ∀ s : State,
    let answered (c : CommandStatus) := Host.Outcome.next { s with rank := { s.rank with status := c } }
    (s.rank.state ≠ .offline → exec .start s = answered .notOffline) ∧
    (s.rank.state = .offline → s.profile.valid = false → exec .start s = answered .noProfile) ∧
    (s.rank.state = .offline → s.profile.valid = true → ∃ t, exec .start s = .next t ∧
      t.bare = State.bare { s.told (.rankState .bringUp) with
        rank := { s.rank with
          status := .ok
          state := if s.rank.retained then .bringUp .retained (.clockSettle (s.time + s.prof.tSET))
            else .bringUp .full (.resetHold (s.time + s.prof.tRST)) }
        refresh := { s.refresh with balance := 0, count := 0 } })

/-- STOP in each rank state: refused, made pending, or carried out, in ACTIVE with the start of its drain, grace cut (R121, R122,
R123, R59, R75, R76). In POWERDOWN stop pending makes
unanimity fail, so a sleep entry that has begun is withdrawn from the drain at once (R128, R83): the reading of assumption 12. -/
def Obligations.StopInEachRankState : Prop :=
  ∀ s : State,
    let emptied (t : State) : Prop := ∀ p, (t.queues.look p).entries = []
    let offline (t : State) (retained : Bool) : Prop :=
      t.rank.state = .offline ∧ t.rank.retained = retained ∧ t.rank.status = .ok ∧ t.rank.stopPending = false ∧
      t.rank.sleepBegun = false ∧ t.refresh.timer = none ∧ t.calibration.shortDue = false ∧ t.calibration.lock = none ∧
      t.drain = ⟨.none, ⟨false, false, false, false⟩, false⟩ ∧ emptied t ∧ t.banks = s.banks ∧
      (∀ p, t.rank.votes.look p = (s.rank.votes.look p).map fun _ => .awake)
    (s.rank.stopPending = true ∨ s.rank.state = .offline ∨ s.rank.state = .stopping →
      exec .stop s = .next { s with rank := { s.rank with status := .notRunning } }) ∧
    (s.rank.stopPending = false →
      (s.rank.state = .active → ∃ t, exec .stop s = .next t ∧ t.rank.state = .stopping ∧ t.rank.status = .ok ∧
        t.drain.purposes.stop = true ∧ emptied t ∧
        (s.drain.phase = .none → DrainStarted ⟨false, false, false, true⟩ false true s t) ∧
        (∀ p e, s.epoch? p = some e → Sent s t p (⟨e, 0, .rankState .stopping⟩ ::
          (s.queues.look p).entries.map fun x => ⟨e, x.tag, .refused .rankStopping⟩)) ∧
        ((s.drain.phase = .none ∨ ∃ u, s.drain.phase = .grace u ∧ s.drain.purposes.stop = false) →
          ∀ b l, (s.banks.look b).state = .opened l →
            (t.banks.look b).state = .revoking ⟨l.row, l.owner, l.contended, .stop⟩)) ∧
      (∀ r, s.rank.state = .powerDown r → ∃ t, exec .stop s = .next t ∧ t.rank.status = .ok ∧
        t.rank.stopPending = true ∧ t.rank.state = .powerDown { r with exitWanted := true } ∧
        t.links = s.links ∧ t.drain = s.drainAwake) ∧
      (∀ w, s.rank.state = .sleep w → ∃ t, exec .stop s = .next t ∧ offline t true) ∧
      (∀ u, s.rank.state = .waking u → ∃ t, exec .stop s = .next t ∧
        t.bare = State.bare { s with rank := { s.rank with status := .ok, stopPending := true } }) ∧
      (∀ path phase, s.rank.state = .bringUp path phase → ∃ t, exec .stop s = .next t ∧
        ∃ kept, offline t kept ∧ (kept = true ↔ s.rank.retained = true ∧ path = .retained ∧
          ((∃ u, phase = .clockSettle u) ∨ phase = .exitWait none))))

/-- COMMIT: refused outside OFFLINE; in OFFLINE the staged copy becomes the active copy if it passes every check, with balance and
count to 0, else the first failed check is reported (R159, R160, R162). -/
def Obligations.CommitValidatesTheStagedCopy : Prop :=
  ∀ s : State,
    let answered (c : CommitStatus) := Host.Outcome.next { s with profile := { s.profile with commit := c } }
    (s.rank.state ≠ .offline → exec .commit s = answered .notOffline) ∧
    (s.rank.state = .offline →
      ((∀ x ∈ s.profile.staged.checks, x = true) → exec .commit s = .next { s with
        profile := { s.profile with active := s.profile.staged, valid := true, commit := .commitOk }
        refresh := { s.refresh with balance := 0, count := 0 } }) ∧
      (∀ before after, s.profile.staged.checks = before ++ false :: after → (∀ x ∈ before, x = true) →
        exec .commit s = answered (.commitRejected (before.length + 1))))

/-- FAULT_POP on an empty list and on one with a head, with the overflow marker, and a write of the alert mask; ALERT follows the
enabled kinds of the list (R166, R167, R168). -/
def Obligations.FaultPopAndAlertMask : Prop :=
  ∀ s : State,
    let f := s.fault
    (f.list = [] → exec .faultPop s = .next { s with fault := { f with popStatus := .listEmpty } }) ∧
    (∀ r rest, f.list = r :: rest →
      let left := if f.overflow then rest ++ [⟨.listOverflow, none, none, .dropped f.overflowCount, s.time48⟩] else rest
      exec .faultPop s = .next { s with fault := { f with
        list := left, overflow := false, overflowCount := 0, popStatus := .ok
        alert := left.any fun x => f.mask.getLsbD x.kind.bit } }) ∧
    (∀ value : BitVec 16, exec (.alertMaskWrite value) s = .next { s with fault := { f with
      mask := value.extractLsb' 0 9
      alert := f.list.any fun x => (value.extractLsb' 0 9).getLsbD x.kind.bit } })

/-- The plain writes and the capturing read: a staged byte is stored as written, a bad write sets MGMT_ERROR and only a one in bit 0
clears it, a read of the lowest byte of a wider register captures it, and later reads of its higher bytes return what was
captured (R156, R171, R175, R176). With no capture standing a read of a byte of Tables 13-6 to 13-8 returns that byte of the field's
present value, the least significant byte at the lowest address (R175, R176); a byte that the tables leave undefined and an address
that names no register read 00H (R171, R175). The values the tables leave open are those of assumptions 1, 5 and 19, and the
code of a flag, yes 1 and no 0, is the model's choice of assumption 29; which bytes are one register for a capture is assumption
18. -/
def Obligations.ManagementWritesAndCapture : Prop :=
  ∀ s : State,
    (∀ (field : Fin 38) (byte : Fin 4) (value : Byte), ∃ t, exec (.stagedProfileWrite field byte value) s = .next t ∧
      (∀ j : Fin 4, byteOf (Profile.field t.profile.staged field) j.val =
        if j = byte then value else byteOf (Profile.field s.profile.staged field) j.val) ∧
      (∀ g, g ≠ field → Profile.field t.profile.staged g = Profile.field s.profile.staged g) ∧
      t = { s with profile := { s.profile with staged := t.profile.staged } }) ∧
    (∀ (address : BitVec 16) (value : Byte), (Instr.mgmtWriteBad address value).wellFormed = true →
      exec (.mgmtWriteBad address value) s = .next { s with fault := { s.fault with mgmtError := true } }) ∧
    (∀ value : Byte, exec (.mgmtErrorClear value) s = .next { s with fault := { s.fault with
      mgmtError := s.fault.mgmtError && !value.getLsbD 0 } }) ∧
    (∀ address : BitVec 16, (Instr.registerCapture address).wellFormed = true → ∃ t r,
      exec (.registerCapture address) s = .next t ∧ r ∈ registers ∧ r.base = address.toNat ∧ 1 < r.size ∧
      t = { s with capture := some ⟨address.toNat, (List.range r.size).map fun i => byteOf (r.value s) i⟩ } ∧
      ∀ u : State, u.capture = t.capture → ∀ i, 0 < i → i < r.size →
        u.readByte (address.toNat + i) = byteOf (r.value s) i) ∧
    (s.capture = none → ∀ x ∈ s.window, ∀ i < x.2.1, s.readByte (x.1 + i) = byteOf x.2.2 i) ∧
    (∀ a, (∀ x ∈ s.window, a < x.1 ∨ x.1 + x.2.1 ≤ a) → s.readByte a = 0) ∧ ViewCodes
end

