-- ==== Sys2Proof/Laws/State.lean ====
section
/-! SUPPORT. The parts of the state that each plain update leaves as they are. -/

namespace Sys2Proof.Machine

@[simp] theorem State.modLink_frame (s : State) (p : Port) (f : PortLink → PortLink) :
    (s.modLink p f).time = s.time ∧ (s.modLink p f).epochCounter = s.epochCounter ∧ (s.modLink p f).queues = s.queues ∧
      (s.modLink p f).banks = s.banks ∧ (s.modLink p f).drain = s.drain ∧ (s.modLink p f).holds = s.holds ∧
      (s.modLink p f).arbiter = s.arbiter ∧ (s.modLink p f).mover = s.mover ∧ (s.modLink p f).refresh = s.refresh ∧
      (s.modLink p f).calibration = s.calibration ∧ (s.modLink p f).rank = s.rank ∧ (s.modLink p f).profile = s.profile ∧
      (s.modLink p f).fault = s.fault ∧ (s.modLink p f).capture = s.capture ∧ (s.modLink p f).freeIndex = s.freeIndex ∧
      (s.modLink p f).pending = s.pending := by
  and_intros <;> rfl

@[simp] theorem State.modQueue_frame (s : State) (p : Port) (f : PortQueue → PortQueue) :
    (s.modQueue p f).time = s.time ∧ (s.modQueue p f).links = s.links ∧ (s.modQueue p f).epochCounter = s.epochCounter ∧
      (s.modQueue p f).banks = s.banks ∧ (s.modQueue p f).drain = s.drain ∧ (s.modQueue p f).holds = s.holds ∧
      (s.modQueue p f).arbiter = s.arbiter ∧ (s.modQueue p f).mover = s.mover ∧ (s.modQueue p f).refresh = s.refresh ∧
      (s.modQueue p f).calibration = s.calibration ∧ (s.modQueue p f).rank = s.rank ∧ (s.modQueue p f).profile = s.profile ∧
      (s.modQueue p f).fault = s.fault ∧ (s.modQueue p f).capture = s.capture ∧ (s.modQueue p f).freeIndex = s.freeIndex ∧
      (s.modQueue p f).pending = s.pending := by
  and_intros <;> rfl

@[simp] theorem State.modBank_frame (s : State) (b : Bank) (f : BankEntry → BankEntry) :
    (s.modBank b f).time = s.time ∧ (s.modBank b f).links = s.links ∧ (s.modBank b f).epochCounter = s.epochCounter ∧
      (s.modBank b f).queues = s.queues ∧ (s.modBank b f).drain = s.drain ∧ (s.modBank b f).holds = s.holds ∧
      (s.modBank b f).arbiter = s.arbiter ∧ (s.modBank b f).mover = s.mover ∧ (s.modBank b f).refresh = s.refresh ∧
      (s.modBank b f).calibration = s.calibration ∧ (s.modBank b f).rank = s.rank ∧ (s.modBank b f).profile = s.profile ∧
      (s.modBank b f).fault = s.fault ∧ (s.modBank b f).capture = s.capture ∧ (s.modBank b f).freeIndex = s.freeIndex ∧
      (s.modBank b f).pending = s.pending := by
  and_intros <;> rfl

@[simp] theorem State.modMover_frame (s : State) (p : Port) (f : MoverPort → MoverPort) :
    (s.modMover p f).time = s.time ∧ (s.modMover p f).links = s.links ∧ (s.modMover p f).epochCounter = s.epochCounter ∧
      (s.modMover p f).queues = s.queues ∧ (s.modMover p f).banks = s.banks ∧ (s.modMover p f).drain = s.drain ∧
      (s.modMover p f).holds = s.holds ∧ (s.modMover p f).arbiter = s.arbiter ∧ (s.modMover p f).refresh = s.refresh ∧
      (s.modMover p f).calibration = s.calibration ∧ (s.modMover p f).rank = s.rank ∧ (s.modMover p f).profile = s.profile ∧
      (s.modMover p f).fault = s.fault ∧ (s.modMover p f).capture = s.capture ∧ (s.modMover p f).freeIndex = s.freeIndex ∧
      (s.modMover p f).pending = s.pending := by
  and_intros <;> rfl

@[simp] theorem State.modPortCounters_frame (s : State) (p : Port) (f : PortCounters → PortCounters) :
    (s.modPortCounters p f).time = s.time ∧ (s.modPortCounters p f).links = s.links ∧ (s.modPortCounters p f).epochCounter = s.epochCounter ∧
      (s.modPortCounters p f).queues = s.queues ∧ (s.modPortCounters p f).banks = s.banks ∧ (s.modPortCounters p f).drain = s.drain ∧
      (s.modPortCounters p f).holds = s.holds ∧ (s.modPortCounters p f).arbiter = s.arbiter ∧ (s.modPortCounters p f).mover = s.mover ∧
      (s.modPortCounters p f).refresh = s.refresh ∧ (s.modPortCounters p f).calibration = s.calibration ∧ (s.modPortCounters p f).rank = s.rank ∧
      (s.modPortCounters p f).profile = s.profile ∧ (s.modPortCounters p f).capture = s.capture ∧ (s.modPortCounters p f).freeIndex = s.freeIndex ∧
      (s.modPortCounters p f).pending = s.pending := by
  and_intros <;> rfl

@[simp] theorem State.modRankCounters_frame (s : State) (f : RankCounters → RankCounters) :
    (s.modRankCounters f).time = s.time ∧ (s.modRankCounters f).links = s.links ∧ (s.modRankCounters f).epochCounter = s.epochCounter ∧
      (s.modRankCounters f).queues = s.queues ∧ (s.modRankCounters f).banks = s.banks ∧ (s.modRankCounters f).drain = s.drain ∧
      (s.modRankCounters f).holds = s.holds ∧ (s.modRankCounters f).arbiter = s.arbiter ∧ (s.modRankCounters f).mover = s.mover ∧
      (s.modRankCounters f).refresh = s.refresh ∧ (s.modRankCounters f).calibration = s.calibration ∧ (s.modRankCounters f).rank = s.rank ∧
      (s.modRankCounters f).profile = s.profile ∧ (s.modRankCounters f).capture = s.capture ∧ (s.modRankCounters f).freeIndex = s.freeIndex ∧
      (s.modRankCounters f).pending = s.pending := by
  and_intros <;> rfl

@[simp] theorem State.setRank_frame (s : State) (r : RankState) :
    (s.setRank r).time = s.time ∧ (s.setRank r).links = s.links ∧ (s.setRank r).epochCounter = s.epochCounter ∧
      (s.setRank r).queues = s.queues ∧ (s.setRank r).banks = s.banks ∧ (s.setRank r).drain = s.drain ∧
      (s.setRank r).holds = s.holds ∧ (s.setRank r).arbiter = s.arbiter ∧ (s.setRank r).mover = s.mover ∧
      (s.setRank r).refresh = s.refresh ∧ (s.setRank r).calibration = s.calibration ∧ (s.setRank r).profile = s.profile ∧
      (s.setRank r).fault = s.fault ∧ (s.setRank r).capture = s.capture ∧ (s.setRank r).freeIndex = s.freeIndex ∧
      (s.setRank r).pending = s.pending := by
  and_intros <;> rfl

@[simp] theorem State.setDrain_frame (s : State) (d : Drain) :
    (s.setDrain d).time = s.time ∧ (s.setDrain d).links = s.links ∧ (s.setDrain d).epochCounter = s.epochCounter ∧
      (s.setDrain d).queues = s.queues ∧ (s.setDrain d).banks = s.banks ∧ (s.setDrain d).holds = s.holds ∧
      (s.setDrain d).arbiter = s.arbiter ∧ (s.setDrain d).mover = s.mover ∧ (s.setDrain d).refresh = s.refresh ∧
      (s.setDrain d).calibration = s.calibration ∧ (s.setDrain d).rank = s.rank ∧ (s.setDrain d).profile = s.profile ∧
      (s.setDrain d).fault = s.fault ∧ (s.setDrain d).capture = s.capture ∧ (s.setDrain d).freeIndex = s.freeIndex ∧
      (s.setDrain d).pending = s.pending := by
  and_intros <;> rfl

@[simp] theorem State.send_frame (s : State) (p : Port) (f : OutFrame) :
    (s.send p f).time = s.time ∧ (s.send p f).epochCounter = s.epochCounter ∧ (s.send p f).queues = s.queues ∧
      (s.send p f).banks = s.banks ∧ (s.send p f).drain = s.drain ∧ (s.send p f).holds = s.holds ∧
      (s.send p f).arbiter = s.arbiter ∧ (s.send p f).mover = s.mover ∧ (s.send p f).refresh = s.refresh ∧
      (s.send p f).calibration = s.calibration ∧ (s.send p f).rank = s.rank ∧ (s.send p f).profile = s.profile ∧
      (s.send p f).fault = s.fault ∧ (s.send p f).capture = s.capture ∧ (s.send p f).freeIndex = s.freeIndex ∧
      (s.send p f).pending = s.pending := by
  and_intros <;> rfl

@[simp] theorem State.reply_frame (s : State) (p : Port) (tag : Byte) (m : Message) :
    (s.reply p tag m).time = s.time ∧ (s.reply p tag m).epochCounter = s.epochCounter ∧ (s.reply p tag m).queues = s.queues ∧
      (s.reply p tag m).banks = s.banks ∧ (s.reply p tag m).drain = s.drain ∧ (s.reply p tag m).holds = s.holds ∧
      (s.reply p tag m).arbiter = s.arbiter ∧ (s.reply p tag m).mover = s.mover ∧ (s.reply p tag m).refresh = s.refresh ∧
      (s.reply p tag m).calibration = s.calibration ∧ (s.reply p tag m).rank = s.rank ∧ (s.reply p tag m).profile = s.profile ∧
      (s.reply p tag m).fault = s.fault ∧ (s.reply p tag m).capture = s.capture ∧ (s.reply p tag m).freeIndex = s.freeIndex ∧
      (s.reply p tag m).pending = s.pending := by
  and_intros <;> rfl

@[simp] theorem State.notice_frame (s : State) (p : Port) (m : Message) :
    (s.notice p m).time = s.time ∧ (s.notice p m).epochCounter = s.epochCounter ∧ (s.notice p m).queues = s.queues ∧
      (s.notice p m).banks = s.banks ∧ (s.notice p m).drain = s.drain ∧ (s.notice p m).holds = s.holds ∧
      (s.notice p m).arbiter = s.arbiter ∧ (s.notice p m).mover = s.mover ∧ (s.notice p m).refresh = s.refresh ∧
      (s.notice p m).calibration = s.calibration ∧ (s.notice p m).rank = s.rank ∧ (s.notice p m).profile = s.profile ∧
      (s.notice p m).fault = s.fault ∧ (s.notice p m).capture = s.capture ∧ (s.notice p m).freeIndex = s.freeIndex ∧
      (s.notice p m).pending = s.pending := by
  and_intros <;> rfl

@[simp] theorem State.refuse_frame (s : State) (p : Port) (tag : Byte) (r : RefusalReason) :
    (s.refuse p tag r).time = s.time ∧ (s.refuse p tag r).epochCounter = s.epochCounter ∧ (s.refuse p tag r).queues = s.queues ∧
      (s.refuse p tag r).banks = s.banks ∧ (s.refuse p tag r).drain = s.drain ∧ (s.refuse p tag r).holds = s.holds ∧
      (s.refuse p tag r).arbiter = s.arbiter ∧ (s.refuse p tag r).mover = s.mover ∧ (s.refuse p tag r).refresh = s.refresh ∧
      (s.refuse p tag r).calibration = s.calibration ∧ (s.refuse p tag r).rank = s.rank ∧ (s.refuse p tag r).profile = s.profile ∧
      (s.refuse p tag r).capture = s.capture ∧ (s.refuse p tag r).freeIndex = s.freeIndex ∧ (s.refuse p tag r).pending = s.pending := by
  and_intros <;> rfl

@[simp] theorem State.handFault_frame (s : State) (k : FaultKind) (p : Option Port) (b : Option Bank) (d : FaultDetail) :
    (s.handFault k p b d).time = s.time ∧ (s.handFault k p b d).links = s.links ∧ (s.handFault k p b d).epochCounter = s.epochCounter ∧
      (s.handFault k p b d).queues = s.queues ∧ (s.handFault k p b d).banks = s.banks ∧ (s.handFault k p b d).drain = s.drain ∧
      (s.handFault k p b d).holds = s.holds ∧ (s.handFault k p b d).arbiter = s.arbiter ∧ (s.handFault k p b d).mover = s.mover ∧
      (s.handFault k p b d).refresh = s.refresh ∧ (s.handFault k p b d).calibration = s.calibration ∧ (s.handFault k p b d).rank = s.rank ∧
      (s.handFault k p b d).profile = s.profile ∧ (s.handFault k p b d).capture = s.capture ∧ (s.handFault k p b d).freeIndex = s.freeIndex ∧
      (s.handFault k p b d).pending = s.pending := by
  and_intros <;> rfl

@[simp] theorem State.setHold_frame (s : State) (id : HoldId) (v : Hold) :
    (s.setHold id v).time = s.time ∧ (s.setHold id v).links = s.links ∧ (s.setHold id v).epochCounter = s.epochCounter ∧
      (s.setHold id v).queues = s.queues ∧ (s.setHold id v).banks = s.banks ∧ (s.setHold id v).drain = s.drain ∧
      (s.setHold id v).arbiter = s.arbiter ∧ (s.setHold id v).mover = s.mover ∧ (s.setHold id v).refresh = s.refresh ∧
      (s.setHold id v).calibration = s.calibration ∧ (s.setHold id v).rank = s.rank ∧ (s.setHold id v).profile = s.profile ∧
      (s.setHold id v).fault = s.fault ∧ (s.setHold id v).capture = s.capture ∧ (s.setHold id v).freeIndex = s.freeIndex ∧
      (s.setHold id v).pending = s.pending := by
  and_intros <;> rfl

@[simp] theorem State.raise_frame (s : State) (id : HoldId) (n : Nat) :
    (s.raise id n).time = s.time ∧ (s.raise id n).links = s.links ∧ (s.raise id n).epochCounter = s.epochCounter ∧
      (s.raise id n).queues = s.queues ∧ (s.raise id n).banks = s.banks ∧ (s.raise id n).drain = s.drain ∧
      (s.raise id n).arbiter = s.arbiter ∧ (s.raise id n).mover = s.mover ∧ (s.raise id n).refresh = s.refresh ∧
      (s.raise id n).calibration = s.calibration ∧ (s.raise id n).rank = s.rank ∧ (s.raise id n).profile = s.profile ∧
      (s.raise id n).fault = s.fault ∧ (s.raise id n).capture = s.capture ∧ (s.raise id n).freeIndex = s.freeIndex ∧
      (s.raise id n).pending = s.pending := by
  and_intros <;> rfl

@[simp] theorem State.setSlot_frame (s : State) (p : Port) (i : Fin 8) (w : WriteSlot) :
    (s.setSlot p i w).time = s.time ∧ (s.setSlot p i w).links = s.links ∧ (s.setSlot p i w).epochCounter = s.epochCounter ∧
      (s.setSlot p i w).queues = s.queues ∧ (s.setSlot p i w).banks = s.banks ∧ (s.setSlot p i w).drain = s.drain ∧
      (s.setSlot p i w).holds = s.holds ∧ (s.setSlot p i w).arbiter = s.arbiter ∧ (s.setSlot p i w).refresh = s.refresh ∧
      (s.setSlot p i w).calibration = s.calibration ∧ (s.setSlot p i w).rank = s.rank ∧ (s.setSlot p i w).profile = s.profile ∧
      (s.setSlot p i w).fault = s.fault ∧ (s.setSlot p i w).capture = s.capture ∧ (s.setSlot p i w).freeIndex = s.freeIndex ∧
      (s.setSlot p i w).pending = s.pending := by
  and_intros <;> rfl

@[simp] theorem State.setSpace_frame (s : State) (p : Port) (i : Fin 4) (w : ReadSpace) :
    (s.setSpace p i w).time = s.time ∧ (s.setSpace p i w).links = s.links ∧ (s.setSpace p i w).epochCounter = s.epochCounter ∧
      (s.setSpace p i w).queues = s.queues ∧ (s.setSpace p i w).banks = s.banks ∧ (s.setSpace p i w).drain = s.drain ∧
      (s.setSpace p i w).holds = s.holds ∧ (s.setSpace p i w).arbiter = s.arbiter ∧ (s.setSpace p i w).refresh = s.refresh ∧
      (s.setSpace p i w).calibration = s.calibration ∧ (s.setSpace p i w).rank = s.rank ∧ (s.setSpace p i w).profile = s.profile ∧
      (s.setSpace p i w).fault = s.fault ∧ (s.setSpace p i w).capture = s.capture ∧ (s.setSpace p i w).freeIndex = s.freeIndex ∧
      (s.setSpace p i w).pending = s.pending := by
  and_intros <;> rfl

@[simp] theorem State.sendWarning_frame (s : State) (b : Bank) (l : Lease) :
    (s.sendWarning b l).time = s.time ∧ (s.sendWarning b l).epochCounter = s.epochCounter ∧ (s.sendWarning b l).queues = s.queues ∧
      (s.sendWarning b l).drain = s.drain ∧ (s.sendWarning b l).holds = s.holds ∧ (s.sendWarning b l).arbiter = s.arbiter ∧
      (s.sendWarning b l).mover = s.mover ∧ (s.sendWarning b l).refresh = s.refresh ∧ (s.sendWarning b l).calibration = s.calibration ∧
      (s.sendWarning b l).rank = s.rank ∧ (s.sendWarning b l).profile = s.profile ∧ (s.sendWarning b l).fault = s.fault ∧
      (s.sendWarning b l).capture = s.capture ∧ (s.sendWarning b l).freeIndex = s.freeIndex ∧ (s.sendWarning b l).pending = s.pending := by
  and_intros <;> rfl

@[simp] theorem State.removeFront_frame (s : State) (p : Port) (b : Bank) (tag : Byte) (settled : Bool) :
    (s.removeFront p b tag settled).time = s.time ∧ (s.removeFront p b tag settled).links = s.links ∧ (s.removeFront p b tag settled).epochCounter = s.epochCounter ∧
      (s.removeFront p b tag settled).banks = s.banks ∧ (s.removeFront p b tag settled).drain = s.drain ∧ (s.removeFront p b tag settled).holds = s.holds ∧
      (s.removeFront p b tag settled).arbiter = s.arbiter ∧ (s.removeFront p b tag settled).mover = s.mover ∧ (s.removeFront p b tag settled).refresh = s.refresh ∧
      (s.removeFront p b tag settled).calibration = s.calibration ∧ (s.removeFront p b tag settled).rank = s.rank ∧ (s.removeFront p b tag settled).profile = s.profile ∧
      (s.removeFront p b tag settled).fault = s.fault ∧ (s.removeFront p b tag settled).capture = s.capture ∧ (s.removeFront p b tag settled).freeIndex = s.freeIndex ∧
      (s.removeFront p b tag settled).pending = s.pending := by
  and_intros <;> rfl

@[simp] theorem State.reassess_frame (s : State) :
    (s.reassess).time = s.time ∧ (s.reassess).links = s.links ∧ (s.reassess).epochCounter = s.epochCounter ∧
      (s.reassess).banks = s.banks ∧ (s.reassess).drain = s.drain ∧ (s.reassess).holds = s.holds ∧
      (s.reassess).arbiter = s.arbiter ∧ (s.reassess).mover = s.mover ∧ (s.reassess).refresh = s.refresh ∧
      (s.reassess).calibration = s.calibration ∧ (s.reassess).rank = s.rank ∧ (s.reassess).profile = s.profile ∧
      (s.reassess).fault = s.fault ∧ (s.reassess).capture = s.capture ∧ (s.reassess).freeIndex = s.freeIndex ∧
      (s.reassess).pending = s.pending := by
  and_intros <;> rfl

@[simp] theorem State.countRevocation_frame (s : State) (p : Port) :
    (s.countRevocation p).time = s.time ∧ (s.countRevocation p).links = s.links ∧ (s.countRevocation p).epochCounter = s.epochCounter ∧
      (s.countRevocation p).queues = s.queues ∧ (s.countRevocation p).banks = s.banks ∧ (s.countRevocation p).drain = s.drain ∧
      (s.countRevocation p).holds = s.holds ∧ (s.countRevocation p).arbiter = s.arbiter ∧ (s.countRevocation p).mover = s.mover ∧
      (s.countRevocation p).refresh = s.refresh ∧ (s.countRevocation p).calibration = s.calibration ∧ (s.countRevocation p).rank = s.rank ∧
      (s.countRevocation p).profile = s.profile ∧ (s.countRevocation p).capture = s.capture ∧ (s.countRevocation p).freeIndex = s.freeIndex ∧
      (s.countRevocation p).pending = s.pending := by
  and_intros <;> rfl

@[simp] theorem State.closeBank_frame (s : State) (b : Bank) :
    (s.closeBank b).time = s.time ∧ (s.closeBank b).links = s.links ∧ (s.closeBank b).epochCounter = s.epochCounter ∧
      (s.closeBank b).queues = s.queues ∧ (s.closeBank b).drain = s.drain ∧ (s.closeBank b).holds = s.holds ∧
      (s.closeBank b).arbiter = s.arbiter ∧ (s.closeBank b).mover = s.mover ∧ (s.closeBank b).refresh = s.refresh ∧
      (s.closeBank b).calibration = s.calibration ∧ (s.closeBank b).rank = s.rank ∧ (s.closeBank b).profile = s.profile ∧
      (s.closeBank b).fault = s.fault ∧ (s.closeBank b).capture = s.capture ∧ (s.closeBank b).freeIndex = s.freeIndex ∧
      (s.closeBank b).pending = s.pending := by
  and_intros <;> rfl

@[simp] theorem State.dropPurpose_frame (s : State) (u : Purpose) :
    (s.dropPurpose u).time = s.time ∧ (s.dropPurpose u).links = s.links ∧ (s.dropPurpose u).epochCounter = s.epochCounter ∧
      (s.dropPurpose u).queues = s.queues ∧ (s.dropPurpose u).banks = s.banks ∧ (s.dropPurpose u).holds = s.holds ∧
      (s.dropPurpose u).arbiter = s.arbiter ∧ (s.dropPurpose u).mover = s.mover ∧ (s.dropPurpose u).refresh = s.refresh ∧
      (s.dropPurpose u).calibration = s.calibration ∧ (s.dropPurpose u).rank = s.rank ∧ (s.dropPurpose u).profile = s.profile ∧
      (s.dropPurpose u).fault = s.fault ∧ (s.dropPurpose u).capture = s.capture ∧ (s.dropPurpose u).freeIndex = s.freeIndex ∧
      (s.dropPurpose u).pending = s.pending := by
  and_intros <;> rfl

@[simp] theorem State.setVote_frame (s : State) (p : Port) (v : Option Vote) :
    (s.setVote p v).time = s.time ∧ (s.setVote p v).links = s.links ∧ (s.setVote p v).epochCounter = s.epochCounter ∧
      (s.setVote p v).queues = s.queues ∧ (s.setVote p v).banks = s.banks ∧ (s.setVote p v).drain = s.drain ∧
      (s.setVote p v).holds = s.holds ∧ (s.setVote p v).arbiter = s.arbiter ∧ (s.setVote p v).mover = s.mover ∧
      (s.setVote p v).refresh = s.refresh ∧ (s.setVote p v).calibration = s.calibration ∧ (s.setVote p v).profile = s.profile ∧
      (s.setVote p v).fault = s.fault ∧ (s.setVote p v).capture = s.capture ∧ (s.setVote p v).freeIndex = s.freeIndex ∧
      (s.setVote p v).pending = s.pending := by
  and_intros <;> rfl

@[simp] theorem State.votesAwake_frame (s : State) :
    (s.votesAwake).time = s.time ∧ (s.votesAwake).links = s.links ∧ (s.votesAwake).epochCounter = s.epochCounter ∧
      (s.votesAwake).queues = s.queues ∧ (s.votesAwake).banks = s.banks ∧ (s.votesAwake).drain = s.drain ∧
      (s.votesAwake).holds = s.holds ∧ (s.votesAwake).arbiter = s.arbiter ∧ (s.votesAwake).mover = s.mover ∧
      (s.votesAwake).refresh = s.refresh ∧ (s.votesAwake).calibration = s.calibration ∧ (s.votesAwake).profile = s.profile ∧
      (s.votesAwake).fault = s.fault ∧ (s.votesAwake).capture = s.capture ∧ (s.votesAwake).freeIndex = s.freeIndex ∧
      (s.votesAwake).pending = s.pending := by
  and_intros <;> rfl

@[simp] theorem State.setBegun_frame (s : State) (b : Bool) :
    (s.setBegun b).time = s.time ∧ (s.setBegun b).links = s.links ∧ (s.setBegun b).epochCounter = s.epochCounter ∧
      (s.setBegun b).queues = s.queues ∧ (s.setBegun b).banks = s.banks ∧ (s.setBegun b).drain = s.drain ∧
      (s.setBegun b).holds = s.holds ∧ (s.setBegun b).arbiter = s.arbiter ∧ (s.setBegun b).mover = s.mover ∧
      (s.setBegun b).refresh = s.refresh ∧ (s.setBegun b).calibration = s.calibration ∧ (s.setBegun b).profile = s.profile ∧
      (s.setBegun b).fault = s.fault ∧ (s.setBegun b).capture = s.capture ∧ (s.setBegun b).freeIndex = s.freeIndex ∧
      (s.setBegun b).pending = s.pending := by
  and_intros <;> rfl

@[simp] theorem State.discardOutbound_frame (s : State) (p : Port) :
    (s.discardOutbound p).time = s.time ∧ (s.discardOutbound p).epochCounter = s.epochCounter ∧ (s.discardOutbound p).queues = s.queues ∧
      (s.discardOutbound p).banks = s.banks ∧ (s.discardOutbound p).drain = s.drain ∧ (s.discardOutbound p).holds = s.holds ∧
      (s.discardOutbound p).arbiter = s.arbiter ∧ (s.discardOutbound p).refresh = s.refresh ∧ (s.discardOutbound p).calibration = s.calibration ∧
      (s.discardOutbound p).rank = s.rank ∧ (s.discardOutbound p).profile = s.profile ∧ (s.discardOutbound p).fault = s.fault ∧
      (s.discardOutbound p).capture = s.capture ∧ (s.discardOutbound p).freeIndex = s.freeIndex ∧ (s.discardOutbound p).pending = s.pending := by
  and_intros <;> rfl

@[simp] theorem State.discardQueue_frame (s : State) (p : Port) :
    (s.discardQueue p).time = s.time ∧ (s.discardQueue p).links = s.links ∧ (s.discardQueue p).epochCounter = s.epochCounter ∧
      (s.discardQueue p).banks = s.banks ∧ (s.discardQueue p).drain = s.drain ∧ (s.discardQueue p).holds = s.holds ∧
      (s.discardQueue p).arbiter = s.arbiter ∧ (s.discardQueue p).refresh = s.refresh ∧ (s.discardQueue p).calibration = s.calibration ∧
      (s.discardQueue p).rank = s.rank ∧ (s.discardQueue p).profile = s.profile ∧ (s.discardQueue p).fault = s.fault ∧
      (s.discardQueue p).capture = s.capture ∧ (s.discardQueue p).freeIndex = s.freeIndex ∧ (s.discardQueue p).pending = s.pending := by
  and_intros <;> rfl

@[simp] theorem State.forget_frame (s : State) (o : Owner) :
    (s.forget o).time = s.time ∧ (s.forget o).links = s.links ∧ (s.forget o).epochCounter = s.epochCounter ∧
      (s.forget o).queues = s.queues ∧ (s.forget o).drain = s.drain ∧ (s.forget o).holds = s.holds ∧
      (s.forget o).arbiter = s.arbiter ∧ (s.forget o).mover = s.mover ∧ (s.forget o).refresh = s.refresh ∧
      (s.forget o).calibration = s.calibration ∧ (s.forget o).rank = s.rank ∧ (s.forget o).profile = s.profile ∧
      (s.forget o).fault = s.fault ∧ (s.forget o).capture = s.capture ∧ (s.forget o).freeIndex = s.freeIndex ∧
      (s.forget o).pending = s.pending := by
  simp [State.forget]

@[simp] theorem State.discardFrame_frame (s : State) (p : Port) (d : FaultDetail) :
    (s.discardFrame p d).time = s.time ∧ (s.discardFrame p d).links = s.links ∧ (s.discardFrame p d).epochCounter = s.epochCounter ∧
      (s.discardFrame p d).queues = s.queues ∧ (s.discardFrame p d).banks = s.banks ∧ (s.discardFrame p d).drain = s.drain ∧
      (s.discardFrame p d).holds = s.holds ∧ (s.discardFrame p d).arbiter = s.arbiter ∧ (s.discardFrame p d).mover = s.mover ∧
      (s.discardFrame p d).refresh = s.refresh ∧ (s.discardFrame p d).calibration = s.calibration ∧ (s.discardFrame p d).rank = s.rank ∧
      (s.discardFrame p d).profile = s.profile ∧ (s.discardFrame p d).capture = s.capture ∧ (s.discardFrame p d).freeIndex = s.freeIndex ∧
      (s.discardFrame p d).pending = s.pending := by
  and_intros <;> rfl

@[simp] theorem State.inSequence_frame (s : State) (p : Port) :
    (s.inSequence p).time = s.time ∧ (s.inSequence p).epochCounter = s.epochCounter ∧ (s.inSequence p).queues = s.queues ∧
      (s.inSequence p).banks = s.banks ∧ (s.inSequence p).drain = s.drain ∧ (s.inSequence p).holds = s.holds ∧
      (s.inSequence p).arbiter = s.arbiter ∧ (s.inSequence p).mover = s.mover ∧ (s.inSequence p).refresh = s.refresh ∧
      (s.inSequence p).calibration = s.calibration ∧ (s.inSequence p).rank = s.rank ∧ (s.inSequence p).profile = s.profile ∧
      (s.inSequence p).fault = s.fault ∧ (s.inSequence p).capture = s.capture ∧ (s.inSequence p).freeIndex = s.freeIndex ∧
      (s.inSequence p).pending = s.pending := by
  and_intros <;> rfl

@[simp] theorem State.recordOperation_frame (s : State) :
    (s.recordOperation).time = s.time ∧ (s.recordOperation).links = s.links ∧ (s.recordOperation).epochCounter = s.epochCounter ∧
      (s.recordOperation).queues = s.queues ∧ (s.recordOperation).banks = s.banks ∧ (s.recordOperation).drain = s.drain ∧
      (s.recordOperation).holds = s.holds ∧ (s.recordOperation).mover = s.mover ∧ (s.recordOperation).refresh = s.refresh ∧
      (s.recordOperation).calibration = s.calibration ∧ (s.recordOperation).rank = s.rank ∧ (s.recordOperation).profile = s.profile ∧
      (s.recordOperation).fault = s.fault ∧ (s.recordOperation).capture = s.capture ∧ (s.recordOperation).freeIndex = s.freeIndex ∧
      (s.recordOperation).pending = s.pending := by
  and_intros <;> rfl

@[simp] theorem State.recordRevocation_frame (s : State) :
    (s.recordRevocation).time = s.time ∧ (s.recordRevocation).links = s.links ∧ (s.recordRevocation).epochCounter = s.epochCounter ∧
      (s.recordRevocation).queues = s.queues ∧ (s.recordRevocation).banks = s.banks ∧ (s.recordRevocation).drain = s.drain ∧
      (s.recordRevocation).holds = s.holds ∧ (s.recordRevocation).mover = s.mover ∧ (s.recordRevocation).refresh = s.refresh ∧
      (s.recordRevocation).calibration = s.calibration ∧ (s.recordRevocation).rank = s.rank ∧ (s.recordRevocation).profile = s.profile ∧
      (s.recordRevocation).fault = s.fault ∧ (s.recordRevocation).capture = s.capture ∧ (s.recordRevocation).freeIndex = s.freeIndex ∧
      (s.recordRevocation).pending = s.pending := by
  and_intros <;> rfl

@[simp] theorem State.recordRequest_frame (s : State) (aged : Bool) (p : Port) :
    (s.recordRequest aged p).time = s.time ∧ (s.recordRequest aged p).links = s.links ∧ (s.recordRequest aged p).epochCounter = s.epochCounter ∧
      (s.recordRequest aged p).queues = s.queues ∧ (s.recordRequest aged p).banks = s.banks ∧ (s.recordRequest aged p).drain = s.drain ∧
      (s.recordRequest aged p).holds = s.holds ∧ (s.recordRequest aged p).mover = s.mover ∧ (s.recordRequest aged p).refresh = s.refresh ∧
      (s.recordRequest aged p).calibration = s.calibration ∧ (s.recordRequest aged p).rank = s.rank ∧ (s.recordRequest aged p).profile = s.profile ∧
      (s.recordRequest aged p).fault = s.fault ∧ (s.recordRequest aged p).capture = s.capture ∧ (s.recordRequest aged p).freeIndex = s.freeIndex ∧
      (s.recordRequest aged p).pending = s.pending := by
  and_intros <;> rfl

@[simp] theorem State.addBurst_frame (s : State) (b : Burst) :
    (s.addBurst b).time = s.time ∧ (s.addBurst b).links = s.links ∧ (s.addBurst b).epochCounter = s.epochCounter ∧
      (s.addBurst b).queues = s.queues ∧ (s.addBurst b).banks = s.banks ∧ (s.addBurst b).drain = s.drain ∧
      (s.addBurst b).arbiter = s.arbiter ∧ (s.addBurst b).mover = s.mover ∧ (s.addBurst b).refresh = s.refresh ∧
      (s.addBurst b).calibration = s.calibration ∧ (s.addBurst b).rank = s.rank ∧ (s.addBurst b).profile = s.profile ∧
      (s.addBurst b).fault = s.fault ∧ (s.addBurst b).capture = s.capture ∧ (s.addBurst b).freeIndex = s.freeIndex ∧
      (s.addBurst b).pending = s.pending := by
  and_intros <;> rfl

@[simp] theorem State.setStatus_frame (s : State) (c : CommandStatus) :
    (s.setStatus c).time = s.time ∧ (s.setStatus c).links = s.links ∧ (s.setStatus c).epochCounter = s.epochCounter ∧
      (s.setStatus c).queues = s.queues ∧ (s.setStatus c).banks = s.banks ∧ (s.setStatus c).drain = s.drain ∧
      (s.setStatus c).holds = s.holds ∧ (s.setStatus c).arbiter = s.arbiter ∧ (s.setStatus c).mover = s.mover ∧
      (s.setStatus c).refresh = s.refresh ∧ (s.setStatus c).calibration = s.calibration ∧ (s.setStatus c).profile = s.profile ∧
      (s.setStatus c).fault = s.fault ∧ (s.setStatus c).capture = s.capture ∧ (s.setStatus c).freeIndex = s.freeIndex ∧
      (s.setStatus c).pending = s.pending := by
  and_intros <;> rfl

@[simp] theorem State.setCommit_frame (s : State) (c : CommitStatus) :
    (s.setCommit c).time = s.time ∧ (s.setCommit c).links = s.links ∧ (s.setCommit c).epochCounter = s.epochCounter ∧
      (s.setCommit c).queues = s.queues ∧ (s.setCommit c).banks = s.banks ∧ (s.setCommit c).drain = s.drain ∧
      (s.setCommit c).holds = s.holds ∧ (s.setCommit c).arbiter = s.arbiter ∧ (s.setCommit c).mover = s.mover ∧
      (s.setCommit c).refresh = s.refresh ∧ (s.setCommit c).calibration = s.calibration ∧ (s.setCommit c).rank = s.rank ∧
      (s.setCommit c).fault = s.fault ∧ (s.setCommit c).capture = s.capture ∧ (s.setCommit c).freeIndex = s.freeIndex ∧
      (s.setCommit c).pending = s.pending := by
  and_intros <;> rfl

@[simp] theorem State.removeTag_frame (s : State) (p : Port) (tag : Byte) :
    (s.removeTag p tag).time = s.time ∧ (s.removeTag p tag).links = s.links ∧ (s.removeTag p tag).epochCounter = s.epochCounter ∧
      (s.removeTag p tag).banks = s.banks ∧ (s.removeTag p tag).drain = s.drain ∧ (s.removeTag p tag).holds = s.holds ∧
      (s.removeTag p tag).arbiter = s.arbiter ∧ (s.removeTag p tag).mover = s.mover ∧ (s.removeTag p tag).refresh = s.refresh ∧
      (s.removeTag p tag).calibration = s.calibration ∧ (s.removeTag p tag).rank = s.rank ∧ (s.removeTag p tag).profile = s.profile ∧
      (s.removeTag p tag).fault = s.fault ∧ (s.removeTag p tag).capture = s.capture ∧ (s.removeTag p tag).freeIndex = s.freeIndex ∧
      (s.removeTag p tag).pending = s.pending := by
  and_intros <;> rfl

@[simp] theorem State.releaseTag_frame (s : State) (p : Port) (tag : Byte) :
    (s.releaseTag p tag).time = s.time ∧ (s.releaseTag p tag).links = s.links ∧ (s.releaseTag p tag).epochCounter = s.epochCounter ∧
      (s.releaseTag p tag).banks = s.banks ∧ (s.releaseTag p tag).drain = s.drain ∧ (s.releaseTag p tag).holds = s.holds ∧
      (s.releaseTag p tag).arbiter = s.arbiter ∧ (s.releaseTag p tag).mover = s.mover ∧ (s.releaseTag p tag).refresh = s.refresh ∧
      (s.releaseTag p tag).calibration = s.calibration ∧ (s.releaseTag p tag).rank = s.rank ∧ (s.releaseTag p tag).profile = s.profile ∧
      (s.releaseTag p tag).fault = s.fault ∧ (s.releaseTag p tag).capture = s.capture ∧ (s.releaseTag p tag).freeIndex = s.freeIndex ∧
      (s.releaseTag p tag).pending = s.pending := by
  and_intros <;> rfl

@[simp] theorem State.startBurst_frame (s : State) (b : Burst) :
    (s.startBurst b).time = s.time ∧ (s.startBurst b).links = s.links ∧ (s.startBurst b).epochCounter = s.epochCounter ∧
      (s.startBurst b).queues = s.queues ∧ (s.startBurst b).banks = s.banks ∧ (s.startBurst b).drain = s.drain ∧
      (s.startBurst b).arbiter = s.arbiter ∧ (s.startBurst b).refresh = s.refresh ∧ (s.startBurst b).calibration = s.calibration ∧
      (s.startBurst b).rank = s.rank ∧ (s.startBurst b).profile = s.profile ∧ (s.startBurst b).fault = s.fault ∧
      (s.startBurst b).capture = s.capture ∧ (s.startBurst b).freeIndex = s.freeIndex ∧ (s.startBurst b).pending = s.pending := by
  and_intros <;> rfl

@[simp] theorem State.endBurst_frame (s : State) :
    (s.endBurst).time = s.time ∧ (s.endBurst).links = s.links ∧ (s.endBurst).epochCounter = s.epochCounter ∧
      (s.endBurst).queues = s.queues ∧ (s.endBurst).banks = s.banks ∧ (s.endBurst).drain = s.drain ∧
      (s.endBurst).arbiter = s.arbiter ∧ (s.endBurst).refresh = s.refresh ∧ (s.endBurst).calibration = s.calibration ∧
      (s.endBurst).rank = s.rank ∧ (s.endBurst).profile = s.profile ∧ (s.endBurst).fault = s.fault ∧
      (s.endBurst).capture = s.capture ∧ (s.endBurst).freeIndex = s.freeIndex ∧ (s.endBurst).pending = s.pending := by
  and_intros <;> rfl

@[simp] theorem State.notBusy_frame (s : State) :
    (s.notBusy).time = s.time ∧ (s.notBusy).links = s.links ∧ (s.notBusy).epochCounter = s.epochCounter ∧
      (s.notBusy).queues = s.queues ∧ (s.notBusy).banks = s.banks ∧ (s.notBusy).drain = s.drain ∧
      (s.notBusy).holds = s.holds ∧ (s.notBusy).arbiter = s.arbiter ∧ (s.notBusy).mover = s.mover ∧
      (s.notBusy).refresh = s.refresh ∧ (s.notBusy).rank = s.rank ∧ (s.notBusy).profile = s.profile ∧
      (s.notBusy).fault = s.fault ∧ (s.notBusy).capture = s.capture ∧ (s.notBusy).freeIndex = s.freeIndex ∧
      (s.notBusy).pending = s.pending := by
  and_intros <;> rfl

@[simp] theorem State.tick_frame (s : State) :
    (s.tick).links = s.links ∧ (s.tick).epochCounter = s.epochCounter ∧ (s.tick).queues = s.queues ∧
      (s.tick).banks = s.banks ∧ (s.tick).drain = s.drain ∧ (s.tick).holds = s.holds ∧
      (s.tick).mover = s.mover ∧ (s.tick).refresh = s.refresh ∧ (s.tick).calibration = s.calibration ∧
      (s.tick).rank = s.rank ∧ (s.tick).profile = s.profile ∧ (s.tick).fault = s.fault ∧
      (s.tick).capture = s.capture ∧ (s.tick).freeIndex = s.freeIndex ∧ (s.tick).pending = s.pending := by
  and_intros <;> rfl

@[simp] theorem State.drawn_frame (s : State) :
    (s.drawn).time = s.time ∧ (s.drawn).links = s.links ∧ (s.drawn).epochCounter = s.epochCounter ∧
      (s.drawn).queues = s.queues ∧ (s.drawn).banks = s.banks ∧ (s.drawn).drain = s.drain ∧
      (s.drawn).holds = s.holds ∧ (s.drawn).arbiter = s.arbiter ∧ (s.drawn).mover = s.mover ∧
      (s.drawn).refresh = s.refresh ∧ (s.drawn).calibration = s.calibration ∧ (s.drawn).rank = s.rank ∧
      (s.drawn).profile = s.profile ∧ (s.drawn).fault = s.fault ∧ (s.drawn).capture = s.capture ∧
      (s.drawn).pending = s.pending := by
  and_intros <;> rfl

end Sys2Proof.Machine
end

