-- ==== Sys2Proof/Laws/Table.lean ====
section
/-! SUPPORT. What reading a table gives after each of its operations, and how its tests over all items read. -/

namespace Sys2Proof.Table
variable {α β : Type} {n : Nat}

@[simp] theorem look_put_same (t : Table α n) (i : Fin n) (x : α) : look (put t i x) i = x := by
  simp [look, put, Vector.get_eq_getElem]

theorem look_put (t : Table α n) (i j : Fin n) (x : α) : look (put t i x) j = if i = j then x else look t j := by
  simp only [look, put, Vector.get_eq_getElem, Vector.getElem_set, Fin.ext_iff]

@[simp] theorem look_put_other (t : Table α n) (i j : Fin n) (x : α) (h : i ≠ j) : look (put t i x) j = look t j := by
  rw [look_put, if_neg h]

@[simp] theorem look_modify_same (t : Table α n) (i : Fin n) (f : α → α) : look (modify t i f) i = f (look t i) := by
  simp [modify]

theorem look_modify (t : Table α n) (i j : Fin n) (f : α → α) :
    look (modify t i f) j = if i = j then f (look t j) else look t j := by
  by_cases h : i = j
  · subst h; simp
  · simp [modify, h]

@[simp] theorem look_modify_other (t : Table α n) (i j : Fin n) (f : α → α) (h : i ≠ j) :
    look (modify t i f) j = look t j := by
  rw [look_modify, if_neg h]

@[simp] theorem look_map (t : Table α n) (f : α → β) (i : Fin n) : look (map t f) i = f (look t i) := by
  simp [look, map, Vector.get_eq_getElem]

@[simp] theorem look_ofFn (f : Fin n → α) (i : Fin n) : look (Vector.ofFn f) i = f i := by
  simp [look, Vector.get_eq_getElem]

@[simp] theorem look_fill (x : α) (i : Fin n) : look (fill n x) i = x := by
  simp [look, fill, Vector.get_eq_getElem]

/-- Two tables are equal when every item is. -/
theorem eq_of_look (t u : Table α n) (h : ∀ i, look t i = look u i) : t = u := by
  apply Vector.ext
  intro i hi
  simpa [look, Vector.get_eq_getElem] using h ⟨i, hi⟩

theorem mem_toList (t : Table α n) (x : α) : x ∈ t.toList ↔ ∃ i, look t i = x := by
  constructor
  · intro h
    obtain ⟨k, hk, rfl⟩ := List.mem_iff_getElem.mp h
    exact ⟨⟨k, by simpa using hk⟩, by simp [look, Vector.get_eq_getElem]⟩
  · rintro ⟨i, rfl⟩
    simp [look, Vector.get_eq_getElem]

theorem all_iff (t : Table α n) (f : α → Bool) : all t f = true ↔ ∀ i, f (look t i) = true := by
  simp only [all, List.all_eq_true, mem_toList]
  constructor
  · intro h i; exact h _ ⟨i, rfl⟩
  · rintro h x ⟨i, rfl⟩; exact h i

theorem any_iff (t : Table α n) (f : α → Bool) : any t f = true ↔ ∃ i, f (look t i) = true := by
  simp only [any, List.any_eq_true, mem_toList]
  constructor
  · rintro ⟨x, ⟨i, rfl⟩, hx⟩; exact ⟨i, hx⟩
  · rintro ⟨i, hi⟩; exact ⟨_, ⟨i, rfl⟩, hi⟩

/-- Of two changes of one item the later stands. -/
@[simp] theorem put_put (t : Table α n) (i : Fin n) (x y : α) : put (put t i x) i y = put t i y := by
  apply eq_of_look; intro j; simp only [look_put]; split <;> rfl

/-- Two changes of one item are one change. -/
theorem modify_modify (t : Table α n) (i : Fin n) (f g : α → α) : modify (modify t i f) i g = modify t i (g ∘ f) := by
  simp [modify]

/-- Changing an item to itself changes nothing. -/
@[simp] theorem put_look (t : Table α n) (i : Fin n) : put t i (look t i) = t := by
  apply eq_of_look; intro j; rw [look_put]; split <;> simp_all

end Sys2Proof.Table

namespace Sys2Proof

theorem mem_allPorts (p : Port) : p ∈ allPorts := by revert p; decide

theorem mem_allBanks (b : Bank) : b ∈ allBanks := by revert b; decide

theorem mem_allSlots (i : Fin 8) : i ∈ allSlots := by revert i; decide

theorem mem_allSpaces (i : Fin 4) : i ∈ allSpaces := by revert i; decide

/-- A fold keeps what each of its steps keeps. -/
theorem foldl_keeps {σ ι α : Type} (g : σ → α) (f : σ → ι → σ) (h : ∀ s i, g (f s i) = g s) (l : List ι) (s : σ) :
    g (l.foldl f s) = g s := by
  induction l generalizing s with
  | nil => rfl
  | cons i l ih => rw [List.foldl_cons, ih, h]

/-- A fold keeps a property that each of its steps keeps. -/
theorem foldl_holds {σ ι : Type} (P : σ → Prop) (f : σ → ι → σ) (h : ∀ s i, P s → P (f s i)) (l : List ι) (s : σ) (hs : P s) :
    P (l.foldl f s) := by
  induction l generalizing s with
  | nil => exact hs
  | cons i l ih => exact ih _ (h s i hs)

end Sys2Proof
end

