-- ==== Sys2Proof/Laws/Frames.lean ====
section
/-! SUPPORT. The parts of the state that each composed operation leaves as they are. -/

namespace Sys2Proof.Machine

@[simp] theorem State.noticeAll_frame (s : State) (m : Message) :
    (s.noticeAll m).time = s.time ∧ (s.noticeAll m).epochCounter = s.epochCounter ∧ (s.noticeAll m).queues = s.queues ∧
      (s.noticeAll m).banks = s.banks ∧ (s.noticeAll m).drain = s.drain ∧ (s.noticeAll m).holds = s.holds ∧
      (s.noticeAll m).arbiter = s.arbiter ∧ (s.noticeAll m).mover = s.mover ∧ (s.noticeAll m).refresh = s.refresh ∧
      (s.noticeAll m).calibration = s.calibration ∧ (s.noticeAll m).rank = s.rank ∧ (s.noticeAll m).profile = s.profile ∧
      (s.noticeAll m).fault = s.fault ∧ (s.noticeAll m).capture = s.capture ∧ (s.noticeAll m).freeIndex = s.freeIndex ∧
      (s.noticeAll m).pending = s.pending := by
  unfold State.noticeAll
  and_intros <;> exact foldl_keeps _ _ (fun s x => by split <;> simp) _ _

@[simp] theorem State.raiseAll_frame (s : State) (l : List (HoldId × Nat)) :
    (s.raiseAll l).time = s.time ∧ (s.raiseAll l).links = s.links ∧ (s.raiseAll l).epochCounter = s.epochCounter ∧
      (s.raiseAll l).queues = s.queues ∧ (s.raiseAll l).banks = s.banks ∧ (s.raiseAll l).drain = s.drain ∧
      (s.raiseAll l).arbiter = s.arbiter ∧ (s.raiseAll l).mover = s.mover ∧ (s.raiseAll l).refresh = s.refresh ∧
      (s.raiseAll l).calibration = s.calibration ∧ (s.raiseAll l).rank = s.rank ∧ (s.raiseAll l).profile = s.profile ∧
      (s.raiseAll l).fault = s.fault ∧ (s.raiseAll l).capture = s.capture ∧ (s.raiseAll l).freeIndex = s.freeIndex ∧
      (s.raiseAll l).pending = s.pending := by
  unfold State.raiseAll
  and_intros <;> exact foldl_keeps _ _ (fun s x => by simp) _ _

@[simp] theorem State.drive_frame (s : State) (c : BusCommand) (l : List (HoldId × Nat)) :
    (s.drive c l).time = s.time ∧ (s.drive c l).links = s.links ∧ (s.drive c l).epochCounter = s.epochCounter ∧
      (s.drive c l).queues = s.queues ∧ (s.drive c l).banks = s.banks ∧ (s.drive c l).drain = s.drain ∧
      (s.drive c l).mover = s.mover ∧ (s.drive c l).refresh = s.refresh ∧ (s.drive c l).calibration = s.calibration ∧
      (s.drive c l).rank = s.rank ∧ (s.drive c l).profile = s.profile ∧ (s.drive c l).fault = s.fault ∧
      (s.drive c l).capture = s.capture ∧ (s.drive c l).freeIndex = s.freeIndex ∧ (s.drive c l).pending = s.pending := by
  simp only [State.drive]
  simp

@[simp] theorem State.freeEntrySlot_frame (s : State) (p : Port) (e : Entry) :
    (s.freeEntrySlot p e).time = s.time ∧ (s.freeEntrySlot p e).links = s.links ∧ (s.freeEntrySlot p e).epochCounter = s.epochCounter ∧
      (s.freeEntrySlot p e).queues = s.queues ∧ (s.freeEntrySlot p e).banks = s.banks ∧ (s.freeEntrySlot p e).drain = s.drain ∧
      (s.freeEntrySlot p e).holds = s.holds ∧ (s.freeEntrySlot p e).arbiter = s.arbiter ∧ (s.freeEntrySlot p e).refresh = s.refresh ∧
      (s.freeEntrySlot p e).calibration = s.calibration ∧ (s.freeEntrySlot p e).rank = s.rank ∧ (s.freeEntrySlot p e).profile = s.profile ∧
      (s.freeEntrySlot p e).fault = s.fault ∧ (s.freeEntrySlot p e).capture = s.capture ∧ (s.freeEntrySlot p e).freeIndex = s.freeIndex ∧
      (s.freeEntrySlot p e).pending = s.pending := by
  simp only [State.freeEntrySlot]
  repeat' split
  all_goals simp

@[simp] theorem State.setContention_frame (s : State) (b : Bank) :
    (s.setContention b).time = s.time ∧ (s.setContention b).epochCounter = s.epochCounter ∧ (s.setContention b).queues = s.queues ∧
      (s.setContention b).drain = s.drain ∧ (s.setContention b).holds = s.holds ∧ (s.setContention b).arbiter = s.arbiter ∧
      (s.setContention b).mover = s.mover ∧ (s.setContention b).refresh = s.refresh ∧ (s.setContention b).calibration = s.calibration ∧
      (s.setContention b).rank = s.rank ∧ (s.setContention b).profile = s.profile ∧ (s.setContention b).fault = s.fault ∧
      (s.setContention b).capture = s.capture ∧ (s.setContention b).freeIndex = s.freeIndex ∧ (s.setContention b).pending = s.pending := by
  simp only [State.setContention]
  repeat' split
  all_goals simp

@[simp] theorem State.answerFront_frame (s : State) (p : Port) (e : Entry) (a : Answer) :
    (s.answerFront p e a).time = s.time ∧ (s.answerFront p e a).epochCounter = s.epochCounter ∧ (s.answerFront p e a).banks = s.banks ∧
      (s.answerFront p e a).drain = s.drain ∧ (s.answerFront p e a).holds = s.holds ∧ (s.answerFront p e a).arbiter = s.arbiter ∧
      (s.answerFront p e a).refresh = s.refresh ∧ (s.answerFront p e a).calibration = s.calibration ∧ (s.answerFront p e a).rank = s.rank ∧
      (s.answerFront p e a).profile = s.profile ∧ (s.answerFront p e a).capture = s.capture ∧ (s.answerFront p e a).freeIndex = s.freeIndex ∧
      (s.answerFront p e a).pending = s.pending := by
  simp only [State.answerFront]
  repeat' split
  all_goals simp

@[simp] theorem State.evalRun_frame (s : State) (p : Port) (b : Bank) (fuel : Nat) :
    (State.evalRun p b fuel s).time = s.time ∧ (State.evalRun p b fuel s).epochCounter = s.epochCounter ∧ (State.evalRun p b fuel s).drain = s.drain ∧
      (State.evalRun p b fuel s).holds = s.holds ∧ (State.evalRun p b fuel s).arbiter = s.arbiter ∧ (State.evalRun p b fuel s).refresh = s.refresh ∧
      (State.evalRun p b fuel s).calibration = s.calibration ∧ (State.evalRun p b fuel s).rank = s.rank ∧ (State.evalRun p b fuel s).profile = s.profile ∧
      (State.evalRun p b fuel s).capture = s.capture ∧ (State.evalRun p b fuel s).freeIndex = s.freeIndex ∧ (State.evalRun p b fuel s).pending = s.pending := by
  induction fuel generalizing s with
  | zero => simp [State.evalRun]
  | succ n ih =>
    unfold State.evalRun
    (repeat' split) <;> simp [ih]

@[simp] theorem State.evalFront_frame (s : State) (p : Port) (b : Bank) :
    (s.evalFront p b).time = s.time ∧ (s.evalFront p b).epochCounter = s.epochCounter ∧ (s.evalFront p b).drain = s.drain ∧
      (s.evalFront p b).holds = s.holds ∧ (s.evalFront p b).arbiter = s.arbiter ∧ (s.evalFront p b).refresh = s.refresh ∧
      (s.evalFront p b).calibration = s.calibration ∧ (s.evalFront p b).rank = s.rank ∧ (s.evalFront p b).profile = s.profile ∧
      (s.evalFront p b).capture = s.capture ∧ (s.evalFront p b).freeIndex = s.freeIndex ∧ (s.evalFront p b).pending = s.pending := by
  simp only [State.evalFront]
  simp

@[simp] theorem State.reevaluate_frame (s : State) (b : Bank) :
    (s.reevaluate b).time = s.time ∧ (s.reevaluate b).epochCounter = s.epochCounter ∧ (s.reevaluate b).drain = s.drain ∧
      (s.reevaluate b).holds = s.holds ∧ (s.reevaluate b).arbiter = s.arbiter ∧ (s.reevaluate b).refresh = s.refresh ∧
      (s.reevaluate b).calibration = s.calibration ∧ (s.reevaluate b).rank = s.rank ∧ (s.reevaluate b).profile = s.profile ∧
      (s.reevaluate b).capture = s.capture ∧ (s.reevaluate b).freeIndex = s.freeIndex ∧ (s.reevaluate b).pending = s.pending := by
  unfold State.reevaluate
  and_intros <;> exact foldl_keeps _ _ (fun s x => by simp) _ _

@[simp] theorem State.judgeIdle_frame (s : State) :
    (s.judgeIdle).time = s.time ∧ (s.judgeIdle).links = s.links ∧ (s.judgeIdle).epochCounter = s.epochCounter ∧
      (s.judgeIdle).queues = s.queues ∧ (s.judgeIdle).banks = s.banks ∧ (s.judgeIdle).drain = s.drain ∧
      (s.judgeIdle).holds = s.holds ∧ (s.judgeIdle).arbiter = s.arbiter ∧ (s.judgeIdle).mover = s.mover ∧
      (s.judgeIdle).refresh = s.refresh ∧ (s.judgeIdle).calibration = s.calibration ∧ (s.judgeIdle).profile = s.profile ∧
      (s.judgeIdle).fault = s.fault ∧ (s.judgeIdle).capture = s.capture ∧ (s.judgeIdle).freeIndex = s.freeIndex ∧
      (s.judgeIdle).pending = s.pending := by
  simp only [State.judgeIdle]
  repeat' split
  all_goals simp

@[simp] theorem State.settle_frame (s : State) :
    (s.settle).time = s.time ∧ (s.settle).links = s.links ∧ (s.settle).epochCounter = s.epochCounter ∧
      (s.settle).banks = s.banks ∧ (s.settle).drain = s.drain ∧ (s.settle).holds = s.holds ∧
      (s.settle).arbiter = s.arbiter ∧ (s.settle).mover = s.mover ∧ (s.settle).refresh = s.refresh ∧
      (s.settle).calibration = s.calibration ∧ (s.settle).profile = s.profile ∧ (s.settle).fault = s.fault ∧
      (s.settle).capture = s.capture ∧ (s.settle).freeIndex = s.freeIndex ∧ (s.settle).pending = s.pending := by
  simp only [State.settle]
  simp

@[simp] theorem State.revoke_frame (s : State) (b : Bank) (r : RevokeReason) :
    (s.revoke b r).time = s.time ∧ (s.revoke b r).links = s.links ∧ (s.revoke b r).epochCounter = s.epochCounter ∧
      (s.revoke b r).queues = s.queues ∧ (s.revoke b r).drain = s.drain ∧ (s.revoke b r).holds = s.holds ∧
      (s.revoke b r).arbiter = s.arbiter ∧ (s.revoke b r).mover = s.mover ∧ (s.revoke b r).refresh = s.refresh ∧
      (s.revoke b r).calibration = s.calibration ∧ (s.revoke b r).rank = s.rank ∧ (s.revoke b r).profile = s.profile ∧
      (s.revoke b r).capture = s.capture ∧ (s.revoke b r).freeIndex = s.freeIndex ∧ (s.revoke b r).pending = s.pending := by
  simp only [State.revoke]
  repeat' split
  all_goals simp

@[simp] theorem State.completeDrain_frame (s : State) :
    (s.completeDrain).time = s.time ∧ (s.completeDrain).links = s.links ∧ (s.completeDrain).epochCounter = s.epochCounter ∧
      (s.completeDrain).queues = s.queues ∧ (s.completeDrain).banks = s.banks ∧ (s.completeDrain).holds = s.holds ∧
      (s.completeDrain).arbiter = s.arbiter ∧ (s.completeDrain).mover = s.mover ∧ (s.completeDrain).refresh = s.refresh ∧
      (s.completeDrain).calibration = s.calibration ∧ (s.completeDrain).rank = s.rank ∧ (s.completeDrain).profile = s.profile ∧
      (s.completeDrain).fault = s.fault ∧ (s.completeDrain).capture = s.capture ∧ (s.completeDrain).freeIndex = s.freeIndex ∧
      (s.completeDrain).pending = s.pending := by
  simp only [State.completeDrain]
  repeat' split
  all_goals simp

@[simp] theorem State.graceRevoke_frame (s : State) (r : RevokeReason) (b : Bank) :
    (s.graceRevoke r b).time = s.time ∧ (s.graceRevoke r b).epochCounter = s.epochCounter ∧ (s.graceRevoke r b).drain = s.drain ∧
      (s.graceRevoke r b).holds = s.holds ∧ (s.graceRevoke r b).arbiter = s.arbiter ∧ (s.graceRevoke r b).refresh = s.refresh ∧
      (s.graceRevoke r b).calibration = s.calibration ∧ (s.graceRevoke r b).rank = s.rank ∧ (s.graceRevoke r b).profile = s.profile ∧
      (s.graceRevoke r b).capture = s.capture ∧ (s.graceRevoke r b).freeIndex = s.freeIndex ∧ (s.graceRevoke r b).pending = s.pending := by
  simp only [State.graceRevoke]
  repeat' split
  all_goals simp

@[simp] theorem State.endGrace_frame (s : State) :
    (s.endGrace).time = s.time ∧ (s.endGrace).epochCounter = s.epochCounter ∧ (s.endGrace).holds = s.holds ∧
      (s.endGrace).arbiter = s.arbiter ∧ (s.endGrace).refresh = s.refresh ∧ (s.endGrace).calibration = s.calibration ∧
      (s.endGrace).rank = s.rank ∧ (s.endGrace).profile = s.profile ∧ (s.endGrace).capture = s.capture ∧
      (s.endGrace).freeIndex = s.freeIndex ∧ (s.endGrace).pending = s.pending := by
  unfold State.endGrace
  dsimp only; simp only [State.completeDrain_frame, State.setDrain_frame]
  and_intros <;> exact foldl_keeps _ _ (fun s x => by simp) _ _

@[simp] theorem State.beginDrain_frame (s : State) (u : Purpose) (urgent : Bool) :
    (s.beginDrain u urgent).time = s.time ∧ (s.beginDrain u urgent).epochCounter = s.epochCounter ∧ (s.beginDrain u urgent).holds = s.holds ∧
      (s.beginDrain u urgent).arbiter = s.arbiter ∧ (s.beginDrain u urgent).refresh = s.refresh ∧ (s.beginDrain u urgent).calibration = s.calibration ∧
      (s.beginDrain u urgent).rank = s.rank ∧ (s.beginDrain u urgent).profile = s.profile ∧ (s.beginDrain u urgent).capture = s.capture ∧
      (s.beginDrain u urgent).freeIndex = s.freeIndex ∧ (s.beginDrain u urgent).pending = s.pending := by
  simp only [State.beginDrain]
  split <;> simp

/-- DRAIN notices change the links and nothing else (R76). -/
@[simp] theorem State.sendDrain_frame (s old : State) (u : Purpose) (urgent : Bool) :
    (s.sendDrain old u urgent).time = s.time ∧ (s.sendDrain old u urgent).epochCounter = s.epochCounter ∧
      (s.sendDrain old u urgent).queues = s.queues ∧ (s.sendDrain old u urgent).banks = s.banks ∧ (s.sendDrain old u urgent).drain = s.drain ∧
      (s.sendDrain old u urgent).holds = s.holds ∧ (s.sendDrain old u urgent).arbiter = s.arbiter ∧ (s.sendDrain old u urgent).mover = s.mover ∧
      (s.sendDrain old u urgent).refresh = s.refresh ∧ (s.sendDrain old u urgent).calibration = s.calibration ∧
      (s.sendDrain old u urgent).rank = s.rank ∧ (s.sendDrain old u urgent).profile = s.profile ∧ (s.sendDrain old u urgent).fault = s.fault ∧
      (s.sendDrain old u urgent).capture = s.capture ∧ (s.sendDrain old u urgent).freeIndex = s.freeIndex ∧
      (s.sendDrain old u urgent).pending = s.pending := by
  unfold State.sendDrain
  and_intros <;> exact foldl_keeps _ _ (fun s x => by simp) _ _

@[simp] theorem State.startDrain_frame (s : State) (u : Purpose) (urgent : Bool) :
    (s.startDrain u urgent).time = s.time ∧ (s.startDrain u urgent).epochCounter = s.epochCounter ∧ (s.startDrain u urgent).holds = s.holds ∧
      (s.startDrain u urgent).arbiter = s.arbiter ∧ (s.startDrain u urgent).refresh = s.refresh ∧ (s.startDrain u urgent).calibration = s.calibration ∧
      (s.startDrain u urgent).rank = s.rank ∧ (s.startDrain u urgent).profile = s.profile ∧ (s.startDrain u urgent).capture = s.capture ∧
      (s.startDrain u urgent).freeIndex = s.freeIndex ∧ (s.startDrain u urgent).pending = s.pending := by
  simp [State.startDrain]

@[simp] theorem State.addPurpose_frame (s : State) (u : Purpose) (urgent : Bool) :
    (s.addPurpose u urgent).time = s.time ∧ (s.addPurpose u urgent).epochCounter = s.epochCounter ∧ (s.addPurpose u urgent).holds = s.holds ∧
      (s.addPurpose u urgent).arbiter = s.arbiter ∧ (s.addPurpose u urgent).refresh = s.refresh ∧ (s.addPurpose u urgent).calibration = s.calibration ∧
      (s.addPurpose u urgent).rank = s.rank ∧ (s.addPurpose u urgent).profile = s.profile ∧ (s.addPurpose u urgent).capture = s.capture ∧
      (s.addPurpose u urgent).freeIndex = s.freeIndex ∧ (s.addPurpose u urgent).pending = s.pending := by
  simp only [State.addPurpose]
  repeat' split
  all_goals simp

/-- An addition of a purpose with the happening's other effects: they follow it, and the DRAIN notices of a start follow them
(R75, R76). -/
theorem State.addPurpose_others (s : State) (u : Purpose) (urgent : Bool) (others : State → State) :
    s.addPurpose u urgent others =
      if s.drain.phase = .none then (others (s.beginDrain u urgent)).sendDrain s u urgent
      else others (s.addPurpose u urgent) := by
  simp only [State.addPurpose, State.startDrain]
  cases s.drain.phase <;> simp

@[simp] theorem State.wantExit_frame (s : State) :
    (s.wantExit).time = s.time ∧ (s.wantExit).links = s.links ∧ (s.wantExit).epochCounter = s.epochCounter ∧
      (s.wantExit).queues = s.queues ∧ (s.wantExit).banks = s.banks ∧ (s.wantExit).drain = s.drain ∧
      (s.wantExit).holds = s.holds ∧ (s.wantExit).arbiter = s.arbiter ∧ (s.wantExit).mover = s.mover ∧
      (s.wantExit).refresh = s.refresh ∧ (s.wantExit).calibration = s.calibration ∧ (s.wantExit).profile = s.profile ∧
      (s.wantExit).fault = s.fault ∧ (s.wantExit).capture = s.capture ∧ (s.wantExit).freeIndex = s.freeIndex ∧
      (s.wantExit).pending = s.pending := by
  simp only [State.wantExit]
  repeat' split
  all_goals simp

@[simp] theorem State.wantWake_frame (s : State) :
    (s.wantWake).time = s.time ∧ (s.wantWake).links = s.links ∧ (s.wantWake).epochCounter = s.epochCounter ∧
      (s.wantWake).queues = s.queues ∧ (s.wantWake).banks = s.banks ∧ (s.wantWake).drain = s.drain ∧
      (s.wantWake).holds = s.holds ∧ (s.wantWake).arbiter = s.arbiter ∧ (s.wantWake).mover = s.mover ∧
      (s.wantWake).refresh = s.refresh ∧ (s.wantWake).calibration = s.calibration ∧ (s.wantWake).profile = s.profile ∧
      (s.wantWake).fault = s.fault ∧ (s.wantWake).capture = s.capture ∧ (s.wantWake).freeIndex = s.freeIndex ∧
      (s.wantWake).pending = s.pending := by
  simp only [State.wantWake]
  repeat' split
  all_goals simp

/-- What a judgement of unanimity can do (R128): nothing; SLEEP withdrawn (R83); SLEEP added to a drain that stands; or a drain
started, whose DRAIN notices follow the happening's other effects (R76). -/
theorem State.judgeUnanimity_cases (s : State) (others : State → State) :
    s.judgeUnanimity others = others s ∨
      (s.unanimous = false ∧ s.rank.sleepBegun = true ∧
        s.judgeUnanimity others = others ((s.dropPurpose .sleep).setBegun false).judgeIdle) ∨
      (s.unanimous = true ∧ s.rank.sleepBegun = false ∧ s.drain.phase ≠ .none ∧
        s.judgeUnanimity others = others (((s.setBegun true).addPurpose .sleep false).wantExit).judgeIdle) ∨
      (s.unanimous = true ∧ s.rank.sleepBegun = false ∧ s.drain.phase = .none ∧
        s.judgeUnanimity others =
          (others (((s.setBegun true).beginDrain .sleep false).wantExit).judgeIdle).sendDrain (s.setBegun true) .sleep false) := by
  unfold State.judgeUnanimity
  rw [(s.setBegun true).addPurpose_others .sleep false fun s => others s.wantExit.judgeIdle]
  cases s.unanimous <;> cases s.rank.sleepBegun <;> by_cases h : s.drain.phase = .none <;> simp [h]

@[simp] theorem State.judgeUnanimity_frame (s : State) :
    (s.judgeUnanimity).time = s.time ∧ (s.judgeUnanimity).epochCounter = s.epochCounter ∧ (s.judgeUnanimity).holds = s.holds ∧
      (s.judgeUnanimity).arbiter = s.arbiter ∧ (s.judgeUnanimity).refresh = s.refresh ∧ (s.judgeUnanimity).calibration = s.calibration ∧
      (s.judgeUnanimity).profile = s.profile ∧ (s.judgeUnanimity).capture = s.capture ∧ (s.judgeUnanimity).freeIndex = s.freeIndex ∧
      (s.judgeUnanimity).pending = s.pending := by
  obtain h | ⟨-, -, h⟩ | ⟨-, -, -, h⟩ | ⟨-, -, -, h⟩ := s.judgeUnanimity_cases id <;> rw [h] <;> simp

@[simp] theorem State.judgeHotExit_frame (s : State) :
    (s.judgeHotExit).time = s.time ∧ (s.judgeHotExit).links = s.links ∧ (s.judgeHotExit).epochCounter = s.epochCounter ∧
      (s.judgeHotExit).queues = s.queues ∧ (s.judgeHotExit).banks = s.banks ∧ (s.judgeHotExit).drain = s.drain ∧
      (s.judgeHotExit).holds = s.holds ∧ (s.judgeHotExit).arbiter = s.arbiter ∧ (s.judgeHotExit).mover = s.mover ∧
      (s.judgeHotExit).refresh = s.refresh ∧ (s.judgeHotExit).calibration = s.calibration ∧ (s.judgeHotExit).profile = s.profile ∧
      (s.judgeHotExit).fault = s.fault ∧ (s.judgeHotExit).capture = s.capture ∧ (s.judgeHotExit).freeIndex = s.freeIndex ∧
      (s.judgeHotExit).pending = s.pending := by
  simp only [State.judgeHotExit]
  repeat' split
  all_goals simp

@[simp] theorem State.thermalChange_frame (s : State) (t : Thermal) (c : ThermalCause) :
    (s.thermalChange t c).time = s.time ∧ (s.thermalChange t c).epochCounter = s.epochCounter ∧ (s.thermalChange t c).queues = s.queues ∧
      (s.thermalChange t c).banks = s.banks ∧ (s.thermalChange t c).drain = s.drain ∧ (s.thermalChange t c).holds = s.holds ∧
      (s.thermalChange t c).arbiter = s.arbiter ∧ (s.thermalChange t c).mover = s.mover ∧ (s.thermalChange t c).calibration = s.calibration ∧
      (s.thermalChange t c).rank = s.rank ∧ (s.thermalChange t c).profile = s.profile ∧ (s.thermalChange t c).capture = s.capture ∧
      (s.thermalChange t c).freeIndex = s.freeIndex ∧ (s.thermalChange t c).pending = s.pending := by
  simp only [State.thermalChange]
  repeat' split
  all_goals simp

@[simp] theorem State.reportThermal_frame (s : State) :
    (s.reportThermal).time = s.time ∧ (s.reportThermal).epochCounter = s.epochCounter ∧ (s.reportThermal).holds = s.holds ∧
      (s.reportThermal).arbiter = s.arbiter ∧ (s.reportThermal).refresh = s.refresh ∧ (s.reportThermal).calibration = s.calibration ∧
      (s.reportThermal).profile = s.profile ∧ (s.reportThermal).capture = s.capture ∧ (s.reportThermal).freeIndex = s.freeIndex ∧
      (s.reportThermal).pending = s.pending := by
  simp only [State.reportThermal]
  repeat' split
  all_goals simp

@[simp] theorem State.become_frame (s : State) (r : RankState) :
    (s.become r).time = s.time ∧ (s.become r).epochCounter = s.epochCounter ∧ (s.become r).queues = s.queues ∧
      (s.become r).banks = s.banks ∧ (s.become r).drain = s.drain ∧ (s.become r).holds = s.holds ∧
      (s.become r).arbiter = s.arbiter ∧ (s.become r).mover = s.mover ∧ (s.become r).refresh = s.refresh ∧
      (s.become r).calibration = s.calibration ∧ (s.become r).profile = s.profile ∧ (s.become r).fault = s.fault ∧
      (s.become r).capture = s.capture ∧ (s.become r).freeIndex = s.freeIndex ∧ (s.become r).pending = s.pending := by
  simp only [State.become]
  simp

@[simp] theorem State.becomeActive_frame (s : State) :
    (s.becomeActive).time = s.time ∧ (s.becomeActive).epochCounter = s.epochCounter ∧ (s.becomeActive).holds = s.holds ∧
      (s.becomeActive).arbiter = s.arbiter ∧ (s.becomeActive).calibration = s.calibration ∧ (s.becomeActive).profile = s.profile ∧
      (s.becomeActive).capture = s.capture ∧ (s.becomeActive).freeIndex = s.freeIndex ∧ (s.becomeActive).pending = s.pending := by
  simp only [State.becomeActive]
  simp

@[simp] theorem State.refuseStopped_frame (s : State) (p : Port) (e : Entry) :
    (s.refuseStopped p e).time = s.time ∧ (s.refuseStopped p e).epochCounter = s.epochCounter ∧ (s.refuseStopped p e).banks = s.banks ∧
      (s.refuseStopped p e).drain = s.drain ∧ (s.refuseStopped p e).holds = s.holds ∧ (s.refuseStopped p e).arbiter = s.arbiter ∧
      (s.refuseStopped p e).refresh = s.refresh ∧ (s.refuseStopped p e).calibration = s.calibration ∧ (s.refuseStopped p e).rank = s.rank ∧
      (s.refuseStopped p e).profile = s.profile ∧ (s.refuseStopped p e).capture = s.capture ∧ (s.refuseStopped p e).freeIndex = s.freeIndex ∧
      (s.refuseStopped p e).pending = s.pending := by
  simp only [State.refuseStopped]
  simp

@[simp] theorem State.refuseQueue_frame (s : State) (p : Port) :
    (s.refuseQueue p).time = s.time ∧ (s.refuseQueue p).epochCounter = s.epochCounter ∧ (s.refuseQueue p).banks = s.banks ∧
      (s.refuseQueue p).drain = s.drain ∧ (s.refuseQueue p).holds = s.holds ∧ (s.refuseQueue p).arbiter = s.arbiter ∧
      (s.refuseQueue p).refresh = s.refresh ∧ (s.refuseQueue p).calibration = s.calibration ∧ (s.refuseQueue p).rank = s.rank ∧
      (s.refuseQueue p).profile = s.profile ∧ (s.refuseQueue p).capture = s.capture ∧ (s.refuseQueue p).freeIndex = s.freeIndex ∧
      (s.refuseQueue p).pending = s.pending := by
  unfold State.refuseQueue
  simp only [State.modQueue_frame]
  and_intros <;> exact foldl_keeps _ _ (fun s x => by simp) _ _

@[simp] theorem State.refuseQueues_frame (s : State) :
    (s.refuseQueues).time = s.time ∧ (s.refuseQueues).epochCounter = s.epochCounter ∧ (s.refuseQueues).banks = s.banks ∧
      (s.refuseQueues).drain = s.drain ∧ (s.refuseQueues).holds = s.holds ∧ (s.refuseQueues).arbiter = s.arbiter ∧
      (s.refuseQueues).refresh = s.refresh ∧ (s.refuseQueues).calibration = s.calibration ∧ (s.refuseQueues).rank = s.rank ∧
      (s.refuseQueues).profile = s.profile ∧ (s.refuseQueues).capture = s.capture ∧ (s.refuseQueues).freeIndex = s.freeIndex ∧
      (s.refuseQueues).pending = s.pending := by
  unfold State.refuseQueues
  and_intros <;> exact foldl_keeps _ _ (fun s x => by simp) _ _

@[simp] theorem State.carryOutStop_frame (s : State) :
    (s.carryOutStop).time = s.time ∧ (s.carryOutStop).epochCounter = s.epochCounter ∧ (s.carryOutStop).holds = s.holds ∧
      (s.carryOutStop).arbiter = s.arbiter ∧ (s.carryOutStop).refresh = s.refresh ∧ (s.carryOutStop).calibration = s.calibration ∧
      (s.carryOutStop).profile = s.profile ∧ (s.carryOutStop).capture = s.capture ∧ (s.carryOutStop).freeIndex = s.freeIndex ∧
      (s.carryOutStop).pending = s.pending := by
  simp only [State.carryOutStop]
  simp

@[simp] theorem State.enterOffline_frame (s : State) (r : Bool) :
    (s.enterOffline r).time = s.time ∧ (s.enterOffline r).epochCounter = s.epochCounter ∧ (s.enterOffline r).queues = s.queues ∧
      (s.enterOffline r).banks = s.banks ∧ (s.enterOffline r).holds = s.holds ∧ (s.enterOffline r).arbiter = s.arbiter ∧
      (s.enterOffline r).mover = s.mover ∧ (s.enterOffline r).profile = s.profile ∧ (s.enterOffline r).fault = s.fault ∧
      (s.enterOffline r).capture = s.capture ∧ (s.enterOffline r).freeIndex = s.freeIndex ∧ (s.enterOffline r).pending = s.pending := by
  simp only [State.enterOffline]
  simp

@[simp] theorem State.shortCalibrationDue_frame (s : State) :
    (s.shortCalibrationDue).time = s.time ∧ (s.shortCalibrationDue).epochCounter = s.epochCounter ∧ (s.shortCalibrationDue).holds = s.holds ∧
      (s.shortCalibrationDue).arbiter = s.arbiter ∧ (s.shortCalibrationDue).refresh = s.refresh ∧ (s.shortCalibrationDue).rank = s.rank ∧
      (s.shortCalibrationDue).profile = s.profile ∧ (s.shortCalibrationDue).capture = s.capture ∧ (s.shortCalibrationDue).freeIndex = s.freeIndex ∧
      (s.shortCalibrationDue).pending = s.pending := by
  simp only [State.shortCalibrationDue]
  repeat' split
  all_goals simp

@[simp] theorem State.revokeOwned_frame (s : State) (o : Owner) (r : RevokeReason) (b : Bank) :
    (s.revokeOwned o r b).time = s.time ∧ (s.revokeOwned o r b).epochCounter = s.epochCounter ∧ (s.revokeOwned o r b).drain = s.drain ∧
      (s.revokeOwned o r b).holds = s.holds ∧ (s.revokeOwned o r b).arbiter = s.arbiter ∧ (s.revokeOwned o r b).refresh = s.refresh ∧
      (s.revokeOwned o r b).calibration = s.calibration ∧ (s.revokeOwned o r b).rank = s.rank ∧ (s.revokeOwned o r b).profile = s.profile ∧
      (s.revokeOwned o r b).capture = s.capture ∧ (s.revokeOwned o r b).freeIndex = s.freeIndex ∧ (s.revokeOwned o r b).pending = s.pending := by
  simp only [State.revokeOwned]
  repeat' split
  all_goals simp

@[simp] theorem State.outOfSequence_frame (s : State) (p : Port) :
    (s.outOfSequence p).time = s.time ∧ (s.outOfSequence p).epochCounter = s.epochCounter ∧ (s.outOfSequence p).queues = s.queues ∧
      (s.outOfSequence p).banks = s.banks ∧ (s.outOfSequence p).drain = s.drain ∧ (s.outOfSequence p).holds = s.holds ∧
      (s.outOfSequence p).arbiter = s.arbiter ∧ (s.outOfSequence p).mover = s.mover ∧ (s.outOfSequence p).refresh = s.refresh ∧
      (s.outOfSequence p).calibration = s.calibration ∧ (s.outOfSequence p).rank = s.rank ∧ (s.outOfSequence p).profile = s.profile ∧
      (s.outOfSequence p).capture = s.capture ∧ (s.outOfSequence p).freeIndex = s.freeIndex ∧ (s.outOfSequence p).pending = s.pending := by
  simp only [State.outOfSequence]
  repeat' split
  all_goals simp

@[simp] theorem State.holdSlot_frame (s : State) (p : Port) (tag : Byte) (slot : Fin 8) (a : Arrival) :
    (s.holdSlot p tag slot a).time = s.time ∧ (s.holdSlot p tag slot a).links = s.links ∧ (s.holdSlot p tag slot a).epochCounter = s.epochCounter ∧
      (s.holdSlot p tag slot a).queues = s.queues ∧ (s.holdSlot p tag slot a).banks = s.banks ∧ (s.holdSlot p tag slot a).drain = s.drain ∧
      (s.holdSlot p tag slot a).holds = s.holds ∧ (s.holdSlot p tag slot a).arbiter = s.arbiter ∧ (s.holdSlot p tag slot a).refresh = s.refresh ∧
      (s.holdSlot p tag slot a).calibration = s.calibration ∧ (s.holdSlot p tag slot a).rank = s.rank ∧ (s.holdSlot p tag slot a).profile = s.profile ∧
      (s.holdSlot p tag slot a).fault = s.fault ∧ (s.holdSlot p tag slot a).capture = s.capture ∧ (s.holdSlot p tag slot a).freeIndex = s.freeIndex ∧
      (s.holdSlot p tag slot a).pending = s.pending := by
  simp only [State.holdSlot]
  repeat' split
  all_goals simp

@[simp] theorem State.reportArrival_frame (s : State) (p : Port) :
    (s.reportArrival p).time = s.time ∧ (s.reportArrival p).epochCounter = s.epochCounter ∧ (s.reportArrival p).holds = s.holds ∧
      (s.reportArrival p).arbiter = s.arbiter ∧ (s.reportArrival p).refresh = s.refresh ∧ (s.reportArrival p).calibration = s.calibration ∧
      (s.reportArrival p).profile = s.profile ∧ (s.reportArrival p).capture = s.capture ∧ (s.reportArrival p).freeIndex = s.freeIndex ∧
      (s.reportArrival p).pending = s.pending := by
  simp only [State.reportArrival]
  simp

@[simp] theorem State.accept_frame (s : State) (p : Port) (tag : Byte) (b : Bank) (a : Arrival) (slot : Fin 8) :
    (s.accept p tag b a slot).time = s.time ∧ (s.accept p tag b a slot).epochCounter = s.epochCounter ∧ (s.accept p tag b a slot).holds = s.holds ∧
      (s.accept p tag b a slot).arbiter = s.arbiter ∧ (s.accept p tag b a slot).refresh = s.refresh ∧ (s.accept p tag b a slot).calibration = s.calibration ∧
      (s.accept p tag b a slot).profile = s.profile ∧ (s.accept p tag b a slot).capture = s.capture ∧ (s.accept p tag b a slot).freeIndex = s.freeIndex ∧
      (s.accept p tag b a slot).pending = s.pending := by
  simp only [State.accept]
  repeat' split
  all_goals simp

@[simp] theorem State.arrive_frame (s : State) (p : Port) (tag bank : Byte) (a : Arrival) :
    (s.arrive p tag bank a).time = s.time ∧ (s.arrive p tag bank a).epochCounter = s.epochCounter ∧ (s.arrive p tag bank a).holds = s.holds ∧
      (s.arrive p tag bank a).arbiter = s.arbiter ∧ (s.arrive p tag bank a).refresh = s.refresh ∧ (s.arrive p tag bank a).calibration = s.calibration ∧
      (s.arrive p tag bank a).profile = s.profile ∧ (s.arrive p tag bank a).capture = s.capture ∧ (s.arrive p tag bank a).freeIndex = s.freeIndex ∧
      (s.arrive p tag bank a).pending = s.pending := by
  simp only [State.arrive]
  repeat' split
  all_goals simp

@[simp] theorem State.autoClose_frame (s : State) (b : Bank) (ac : Bool) :
    (s.autoClose b ac).time = s.time ∧ (s.autoClose b ac).links = s.links ∧ (s.autoClose b ac).epochCounter = s.epochCounter ∧
      (s.autoClose b ac).queues = s.queues ∧ (s.autoClose b ac).holds = s.holds ∧ (s.autoClose b ac).arbiter = s.arbiter ∧
      (s.autoClose b ac).mover = s.mover ∧ (s.autoClose b ac).refresh = s.refresh ∧ (s.autoClose b ac).calibration = s.calibration ∧
      (s.autoClose b ac).rank = s.rank ∧ (s.autoClose b ac).profile = s.profile ∧ (s.autoClose b ac).fault = s.fault ∧
      (s.autoClose b ac).capture = s.capture ∧ (s.autoClose b ac).freeIndex = s.freeIndex ∧ (s.autoClose b ac).pending = s.pending := by
  simp only [State.autoClose]
  repeat' split
  all_goals simp

@[simp] theorem State.takeSpace_frame (s : State) (p : Port) (tag : Byte) :
    (s.takeSpace p tag).time = s.time ∧ (s.takeSpace p tag).links = s.links ∧ (s.takeSpace p tag).epochCounter = s.epochCounter ∧
      (s.takeSpace p tag).queues = s.queues ∧ (s.takeSpace p tag).banks = s.banks ∧ (s.takeSpace p tag).drain = s.drain ∧
      (s.takeSpace p tag).holds = s.holds ∧ (s.takeSpace p tag).arbiter = s.arbiter ∧ (s.takeSpace p tag).refresh = s.refresh ∧
      (s.takeSpace p tag).calibration = s.calibration ∧ (s.takeSpace p tag).rank = s.rank ∧ (s.takeSpace p tag).profile = s.profile ∧
      (s.takeSpace p tag).fault = s.fault ∧ (s.takeSpace p tag).capture = s.capture ∧ (s.takeSpace p tag).freeIndex = s.freeIndex ∧
      (s.takeSpace p tag).pending = s.pending := by
  simp only [State.takeSpace]
  repeat' split
  all_goals simp

@[simp] theorem State.afterRequest_frame (s : State) (b : Bank) (changed : Bool) :
    (s.afterRequest b changed).time = s.time ∧ (s.afterRequest b changed).epochCounter = s.epochCounter ∧ (s.afterRequest b changed).holds = s.holds ∧
      (s.afterRequest b changed).arbiter = s.arbiter ∧ (s.afterRequest b changed).refresh = s.refresh ∧ (s.afterRequest b changed).calibration = s.calibration ∧
      (s.afterRequest b changed).profile = s.profile ∧ (s.afterRequest b changed).capture = s.capture ∧ (s.afterRequest b changed).freeIndex = s.freeIndex ∧
      (s.afterRequest b changed).pending = s.pending := by
  simp only [State.afterRequest]
  repeat' split
  all_goals simp

@[simp] theorem State.judgeRemoval_frame (s : State) (old : State) :
    (s.judgeRemoval old).time = s.time ∧ (s.judgeRemoval old).epochCounter = s.epochCounter ∧ (s.judgeRemoval old).holds = s.holds ∧
      (s.judgeRemoval old).arbiter = s.arbiter ∧ (s.judgeRemoval old).refresh = s.refresh ∧ (s.judgeRemoval old).calibration = s.calibration ∧
      (s.judgeRemoval old).profile = s.profile ∧ (s.judgeRemoval old).capture = s.capture ∧ (s.judgeRemoval old).freeIndex = s.freeIndex ∧
      (s.judgeRemoval old).pending = s.pending := by
  simp only [State.judgeRemoval]
  repeat' split
  all_goals simp

@[simp] theorem State.reportLeave_frame (s : State) (o : Owner) :
    (s.reportLeave o).time = s.time ∧ (s.reportLeave o).epochCounter = s.epochCounter ∧ (s.reportLeave o).queues = s.queues ∧
      (s.reportLeave o).banks = s.banks ∧ (s.reportLeave o).drain = s.drain ∧ (s.reportLeave o).holds = s.holds ∧
      (s.reportLeave o).arbiter = s.arbiter ∧ (s.reportLeave o).mover = s.mover ∧ (s.reportLeave o).refresh = s.refresh ∧
      (s.reportLeave o).calibration = s.calibration ∧ (s.reportLeave o).rank = s.rank ∧ (s.reportLeave o).profile = s.profile ∧
      (s.reportLeave o).fault = s.fault ∧ (s.reportLeave o).capture = s.capture ∧ (s.reportLeave o).freeIndex = s.freeIndex ∧
      (s.reportLeave o).pending = s.pending := by
  simp only [State.reportLeave]
  repeat' split
  all_goals simp

@[simp] theorem State.openSession_frame (s : State) (p : Port) (tag : Byte) :
    (s.openSession p tag).time = s.time ∧ (s.openSession p tag).holds = s.holds ∧ (s.openSession p tag).arbiter = s.arbiter ∧
      (s.openSession p tag).refresh = s.refresh ∧ (s.openSession p tag).calibration = s.calibration ∧ (s.openSession p tag).profile = s.profile ∧
      (s.openSession p tag).capture = s.capture ∧ (s.openSession p tag).freeIndex = s.freeIndex ∧ (s.openSession p tag).pending = s.pending := by
  simp only [State.openSession]
  simp

end Sys2Proof.Machine
end

