-- ==== Sys2Proof/Laws/Ops.lean ====
section
/-! SUPPORT. What each shared operation can do, said once: the lemmas that proofs about commands cite instead of unfolding the
operation. -/

namespace Sys2Proof.Machine

/-! ### Holds -/

/-- Reading a hold after one has been replaced. -/
theorem Holds.hold_set (h : Holds) (id x : HoldId) (v : Hold) : (h.set id v).hold x = if x = id then v else h.hold x := by
  cases id <;> cases x <;> simp [Holds.set, Holds.hold, Table.look_put, eq_comm]

/-- Replacing a hold by what it is. -/
theorem Holds.set_hold (h : Holds) (id : HoldId) : h.set id (h.hold id) = h := by
  cases id <;> simp [Holds.set, Holds.hold]

/-- What a raise makes of a hold is the same before and after a later one (R24). -/
theorem Hold.raise_raise (now t u : Nat) (h : Hold) : Hold.raise now t (Hold.raise now u h) = Hold.raise now (max t u) h := by
  cases h with
  | none =>
    by_cases a : now < u
    · rw [show Hold.raise now u none = some u by simp [Hold.raise, a], Hold.raise, Hold.raise, if_pos (by omega), Nat.max_comm]
    · rw [show Hold.raise now u none = none by simp [Hold.raise, a], Hold.raise, Hold.raise]
      by_cases b : now < t
      · rw [if_pos b, if_pos (by omega), Nat.max_eq_left (by omega)]
      · rw [if_neg b, if_neg (by omega)]
  | some w => simp only [Hold.raise, Option.some.injEq]; omega

/-- One raise of the Hold Unit (R24). -/
theorem State.raise_hold (s : State) (id x : HoldId) (n : Nat) :
    (s.raise id n).holds.holds.hold x =
      if x = id then Hold.raise s.time (s.time + n) (s.holds.holds.hold id) else s.holds.holds.hold x := by
  simp [State.raise, State.setHold, Holds.hold_set]

/-- A raise touches only the holds. -/
@[simp] theorem State.raise_lists (s : State) (id : HoldId) (n : Nat) :
    (s.raise id n).holds.window = s.holds.window ∧ (s.raise id n).holds.bursts = s.holds.bursts := ⟨rfl, rfl⟩

/-- Several raises touch only the holds. -/
@[simp] theorem State.raiseAll_lists (s : State) (l : List (HoldId × Nat)) :
    (s.raiseAll l).holds.window = s.holds.window ∧ (s.raiseAll l).holds.bursts = s.holds.bursts := by
  unfold State.raiseAll
  constructor
  · exact foldl_keeps (fun s : State => s.holds.window) _ (fun _ _ => by simp) _ _
  · exact foldl_keeps (fun s : State => s.holds.bursts) _ (fun _ _ => by simp) _ _

/-- Several raises of different holds (R24). -/
theorem State.raiseAll_raised (l : List (HoldId × Nat)) (h : (l.map Prod.fst).Nodup) (s : State) : Raised l s (s.raiseAll l) := by
  induction l generalizing s with
  | nil => intro id; rfl
  | cons a l ih =>
    rw [List.map_cons, List.nodup_cons] at h
    intro id
    have step := ih h.2 (s.raise a.1 a.2) id
    rw [show s.raiseAll (a :: l) = (s.raise a.1 a.2).raiseAll l from rfl, step, List.find?_cons]
    by_cases e : a.1 = id
    · subst e
      have none : l.find? (fun x => x.1 == a.1) = none := by
        rw [List.find?_eq_none]
        intro x hx he
        exact h.1 (List.mem_map.mpr ⟨x, hx, by simpa using he⟩)
      simp [none, State.raise_hold]
    · have e' : id ≠ a.1 := fun h => e h.symm
      simp only [beq_eq_false_iff_ne.mpr e, State.raise_hold, if_neg e']
      have same : (s.raise a.1 a.2).time = s.time := by simp
      rw [same]

/-- What a command drives and raises (R68). -/
theorem State.drive_raised (s : State) (c : BusCommand) (l : List (HoldId × Nat)) (h : (l.map Prod.fst).Nodup) :
    OnlyRaised l s (s.drive c l) ∧ (s.drive c l).arbiter = { s.arbiter with commandBus := some c } := by
  refine ⟨⟨State.raiseAll_raised l h { s with arbiter := { s.arbiter with commandBus := some c } }, ?_, ?_⟩, ?_⟩ <;>
    simp [State.drive]

/-- A command driven changes only the holds and the bus (R68). -/
theorem State.drive_eq (s : State) (c : BusCommand) (l : List (HoldId × Nat)) :
    s.drive c l = { s with
      holds := { s.holds with holds := (s.drive c l).holds.holds }, arbiter := { s.arbiter with commandBus := some c } } := by
  have h := State.drive_frame s c l
  have a : (s.drive c l).arbiter = { s.arbiter with commandBus := some c } := by simp [State.drive]
  have w := State.raiseAll_lists { s with arbiter := { s.arbiter with commandBus := some c } } l
  change (s.drive c l).holds.window = s.holds.window ∧ (s.drive c l).holds.bursts = s.holds.bursts at w
  revert h a w
  generalize s.drive c l = d
  intro h a w
  obtain ⟨_, _, _, _, _, _, ⟨_, _, _⟩, _, _, _, _, _, _, _, _, _, _⟩ := d
  simp only [State.mk.injEq] at *
  simp_all

/-- The two raises of a command that holds the bus alone are one (R26, R35, R36). -/
theorem State.drive_bus (s : State) (c : BusCommand) (n : Nat) :
    OnlyRaised [(.command, max 1 n)] s (s.drive c (busRaises n)) ∧
      (s.drive c (busRaises n)).arbiter = { s.arbiter with commandBus := some c } := by
  refine ⟨⟨?_, ?_, ?_⟩, ?_⟩
  · intro id
    simp only [State.drive, busRaises, State.raiseAll, List.foldl_cons, List.foldl_nil, State.raise_hold, List.find?_cons,
      List.find?_nil]
    by_cases e : id = .command
    · subst e
      simp [Hold.raise_raise, Nat.max_comm, Nat.add_max_add_left]
    · simp [e, beq_eq_false_iff_ne.mpr (Ne.symm e)]
  · simp [State.drive]
  · simp [State.drive]
  · simp [State.drive]

/-! ### The end of a happening -/

@[simp] theorem Entry.bare_bare (e : Entry) : e.bare.bare = e.bare := rfl

/-- Assessing readiness changes nothing but waiting-reasons (R54). -/
@[simp] theorem State.reassess_bare (s : State) : s.reassess.bare = s.bare := by
  have key : (Table.map s.reassess.queues PortQueue.bare) = Table.map s.queues PortQueue.bare := by
    apply Table.eq_of_look
    intro p
    simp [State.reassess, PortQueue.bare, Entry.bare]
  simp only [State.bare, key]
  rfl

/-- Judging the idle timer changes nothing else (R124). -/
@[simp] theorem State.judgeIdle_bare (s : State) : s.judgeIdle.bare = s.bare := by
  simp only [State.judgeIdle]
  repeat' split
  all_goals rfl

/-- The end of a happening changes nothing but waiting-reasons and the idle timer. -/
@[simp] theorem State.settle_bare (s : State) : s.settle.bare = s.bare := by simp [State.settle]

/-- Two bare states are equal part by part. -/
theorem State.bare_congr (s t : State) (hq : ∀ p, (t.queues.look p).bare = (s.queues.look p).bare)
    (hr : { t.rank with idle := .stopped } = { s.rank with idle := IdleTimer.stopped })
    (h : SameBut [.queues, .rank] s t) : t.bare = s.bare := by
  have hq' : Table.map t.queues PortQueue.bare = Table.map s.queues PortQueue.bare :=
    Table.eq_of_look _ _ fun p => by simpa using hq p
  have g := fun x hx => h x hx
  simp only [State.bare, hq', hr]
  have h1 : t.time = s.time := g .time (by decide)
  have h2 : t.links = s.links := g .links (by decide)
  have h3 : t.epochCounter = s.epochCounter := g .epochCounter (by decide)
  have h4 : t.banks = s.banks := g .banks (by decide)
  have h5 : t.drain = s.drain := g .drain (by decide)
  have h6 : t.holds = s.holds := g .holds (by decide)
  have h7 : t.arbiter = s.arbiter := g .arbiter (by decide)
  have h8 : t.mover = s.mover := g .mover (by decide)
  have h9 : t.refresh = s.refresh := g .refresh (by decide)
  have h10 : t.calibration = s.calibration := g .calibration (by decide)
  have h11 : t.profile = s.profile := g .profile (by decide)
  have h12 : t.fault = s.fault := g .fault (by decide)
  have h13 : t.capture = s.capture := g .capture (by decide)
  have h14 : t.freeIndex = s.freeIndex := g .freeIndex (by decide)
  have h15 : t.pending = s.pending := g .pending (by decide)
  rw [h1, h2, h3, h4, h5, h6, h7, h8, h9, h10, h11, h12, h13, h14, h15]

/-! ### Unanimity -/

/-- With a master awake there is no unanimity (R128). -/
theorem State.not_unanimous_of_awake (s : State) (p : Port) (h : s.rank.votes.look p = some .awake) : s.unanimous = false := by
  have : Table.all s.rank.votes (fun v => v != some .awake) = false := by
    rw [Bool.eq_false_iff]
    intro all
    have := (Table.all_iff _ _).mp all p
    simp [h] at this
  simp [State.unanimous, this]

/-- With a master awake and no sleep entry under way, judging unanimity changes nothing (R128), so that the happening's other effects
are all that follows. -/
theorem State.judgeUnanimity_awake (s : State) (others : State → State) (h : s.awakeMaster) :
    s.judgeUnanimity others = others s := by
  obtain ⟨h1, p, h2⟩ := h
  simp [State.judgeUnanimity, s.not_unanimous_of_awake p h2, h1]

/-- With a master awake, judging unanimity withdraws a sleep entry that has begun, with the idle timer judged at that drain's end,
and does nothing else (R83, R124, R128). -/
theorem State.judgeUnanimity_of_awake (s : State) (others : State → State) (p : Port)
    (h : s.rank.votes.look p = some .awake) :
    s.judgeUnanimity others = others
      (if s.rank.sleepBegun then
        State.judgeIdle { s with drain := s.drainAwake, rank := { s.rank with sleepBegun := false } }
      else s) := by
  simp only [State.judgeUnanimity, s.not_unanimous_of_awake p h]
  cases hb : s.rank.sleepBegun
  · simp
  · simp [State.drainAwake, hb, State.setBegun, State.dropPurpose, State.setDrain, Purposes.drop]

/-! ### Front entries -/

/-- A port with no entry for the bank is passed over by evaluation. -/
theorem State.evalFront_none (s : State) (p : Port) (b : Bank) (h : s.front p b = none) : s.evalFront p b = s := by
  unfold State.evalFront
  cases hn : (s.queues.look p).entries.length with
  | zero => rfl
  | succ n => simp [State.evalRun, h]

/-- A candidate at the front stays (R48). -/
theorem State.evalFront_candidate (s : State) (p : Port) (b : Bank) (e : Entry) (h : s.front p b = some e)
    (hc : s.outcome p e = .candidate) : s.evalFront p b = s := by
  unfold State.evalFront
  cases hn : (s.queues.look p).entries.length with
  | zero => rfl
  | succ n => simp [State.evalRun, h, hc]

/-- With no entry for the bank in any queue, evaluating its front entries changes nothing. -/
theorem State.reevaluate_none (s : State) (b : Bank) (h : ∀ p, s.front p b = none) : s.reevaluate b = s := by
  simp only [State.reevaluate, allPorts, List.foldl_cons, List.foldl_nil]
  rw [s.evalFront_none 0 b (h 0), s.evalFront_none 1 b (h 1), s.evalFront_none 2 b (h 2), s.evalFront_none 3 b (h 3)]

/-! ### Notices -/

/-- A notice to one port, if its session is current. -/
theorem State.notice_links (s : State) (p q : Port) (m : Message) :
    ((if s.current p then s.notice p m else s).links.look q) =
      if q = p then (s.told m).links.look q else s.links.look q := by
  by_cases hc : q = p
  · subst hc
    cases he : s.epoch? q with
    | none => simp [State.current, he, State.told]
    | some e =>
      simp [State.current, he, State.told, State.notice, State.send, State.modLink, State.frameEpoch]
  · cases he : s.epoch? p with
    | none => simp [State.current, he, hc]
    | some e => simp [State.current, he, hc, State.notice, State.send, State.modLink, Ne.symm hc]

/-- The epoch of no port changes by a notice. -/
theorem State.told_epoch (s : State) (m : Message) (q : Port) : (s.told m).epoch? q = s.epoch? q := by
  simp only [State.told, State.epoch?, Table.look_ofFn]
  split <;> rfl

/-- A notice to all is a notice to each port whose session is current (R103, R117). -/
theorem State.noticeAll_told (s : State) (m : Message) : s.noticeAll m = s.told m := by
  have ep : ∀ (u : State) (p x : Port), (if u.current p then u.notice p m else u).epoch? x = u.epoch? x := by
    intro u p x
    have h := u.notice_links p x m
    simp only [State.epoch?, h]
    split
    · exact u.told_epoch m x
    · rfl
  have fold : ∀ (l : List Port), l.Nodup → ∀ (u : State) (q : Port),
      ((l.foldl (fun s p => if s.current p then s.notice p m else s) u).links.look q) =
        if q ∈ l then (u.told m).links.look q else u.links.look q := by
    intro l
    induction l with
    | nil => intro _ u q; simp
    | cons p l ih =>
      intro hl u q
      rw [List.nodup_cons] at hl
      rw [List.foldl_cons, ih hl.2]
      have toldq : ∀ v : State, (v.told m).links.look q = match v.epoch? q with
          | some e => { v.links.look q with outbound := (v.links.look q).outbound ++ [⟨e, 0, m⟩] }
          | none => v.links.look q := by intro v; simp only [State.told, Table.look_ofFn] <;> rfl
      have link := u.notice_links p q m
      by_cases hq : q ∈ l
      · have : q ≠ p := fun h => hl.1 (h ▸ hq)
        rw [if_neg this] at link
        rw [if_pos hq, if_pos (List.mem_cons_of_mem _ hq), toldq, toldq, ep, link]
      · rw [if_neg hq, link]
        by_cases hp : q = p
        · subst hp; simp
        · simp [hq, hp]
  have h : (s.noticeAll m).links = (s.told m).links := by
    apply Table.eq_of_look
    intro q
    have := fold allPorts (by decide) s q
    rw [if_pos (mem_allPorts q)] at this
    exact this
  obtain ⟨h1, h3, h4, h5, h6, h7, h8, h9, h10, h11, h12, h13, h14, h15, h16, h17⟩ := State.noticeAll_frame s m
  revert h h1 h3 h4 h5 h6 h7 h8 h9 h10 h11 h12 h13 h14 h15 h16 h17
  generalize s.noticeAll m = t
  intro h h1 h3 h4 h5 h6 h7 h8 h9 h10 h11 h12 h13 h14 h15 h16 h17
  cases t
  simp only [State.told] at *
  simp only [State.mk.injEq]
  exact ⟨h1, h, h3, h4, h5, h6, h7, h8, h9, h10, h11, h12, h13, h14, h15, h16, h17⟩

end Sys2Proof.Machine
end

