-- ==== Sys2Proof/Laws/Evaluate.lean ====
section
/-! SUPPORT. Everything that evaluating the front entries for a bank can do (R48 to R52), said once. -/

namespace Sys2Proof.Machine

/-- What contention can make of a bank's state (R11, R12): nothing, a cap with its warning, or the mark. -/
inductive Contention (now tCONT : Nat) : BankState → BankState → Prop where
  | same (x : BankState) : Contention now tCONT x x
  | capped (l l' : Lease) (h : l.contended = false) (row : l'.row = l.row) (owner : l'.owner = l.owner)
      (deadline : l'.deadline = min l.deadline (now + tCONT)) (extensions : l'.extensions = l.extensions)
      (contended : l'.contended = true) (warned : l.warned = true → l'.warned = true) :
      Contention now tCONT (.opened l) (.opened l')
  | marked (r : Revocation) : Contention now tCONT (.revoking r) (.revoking { r with contended := true })

theorem Contention.trans {now c : Nat} {x y z : BankState} (h : Contention now c x y) (g : Contention now c y z) :
    Contention now c x z := by
  cases h with
  | same => exact g
  | capped l l' h1 h2 h3 h4 h5 h6 h7 =>
    cases g with
    | same => exact .capped l l' h1 h2 h3 h4 h5 h6 h7
    | capped _ l'' g1 => rw [h6] at g1; cases g1
  | marked r =>
    cases g with
    | same => exact .marked r
    | marked _ => exact .marked r

/-- What evaluation for a bank can change from `s` to `t`: frames appended, the contention of that bank, entries of that bank
answered with their tags and HELD slots, the refused counters. -/
structure Evaluated (b : Bank) (s t : State) : Prop where
  links : ∀ p, ∃ frames, t.links.look p = { s.links.look p with outbound := (s.links.look p).outbound ++ frames }
  others : ∀ x, x ≠ b → t.banks.look x = s.banks.look x
  revokedFrom : (t.banks.look b).revokedFrom = (s.banks.look b).revokedFrom
  contention : Contention s.time s.prof.tCONT (s.banks.look b).state (t.banks.look b).state
  spaces : ∀ p, (t.mover.ports.look p).spaces = (s.mover.ports.look p).spaces
  dataBus : t.mover.dataBus = s.mover.dataBus
  queues : ∀ p, (t.queues.look p).entries.filter (fun e => e.bank != b) =
    (s.queues.look p).entries.filter (fun e => e.bank != b)
  untouched : ∀ p, s.front p b = none →
    t.queues.look p = s.queues.look p ∧ (t.mover.ports.look p) = (s.mover.ports.look p)
  fault : t.fault = { s.fault with ports := t.fault.ports }
  counters : ∀ p, (t.fault.ports.look p) = { s.fault.ports.look p with refused := (t.fault.ports.look p).refused }
  rest : SameBut [.links, .queues, .banks, .mover, .fault] s t

theorem Evaluated.refl (b : Bank) (s : State) : Evaluated b s s where
  links p := ⟨[], by simp⟩
  others _ _ := rfl
  revokedFrom := rfl
  contention := .same _
  spaces _ := rfl
  dataBus := rfl
  queues _ := rfl
  untouched _ _ := ⟨rfl, rfl⟩
  fault := rfl
  counters _ := rfl
  rest x _ := by cases x <;> rfl

theorem SameBut.trans {l : List Part} {s t u : State} (h : SameBut l s t) (g : SameBut l t u) : SameBut l s u := by
  intro x hx
  have a := h x hx
  have b := g x hx
  cases x <;> simp only [Part.Agree] at * <;> rw [b, a]

theorem SameBut.refl (l : List Part) (s : State) : SameBut l s s := by intro x _; cases x <;> rfl

theorem SameBut.mono {l m : List Part} {s t : State} (h : SameBut l s t) (g : ∀ x ∈ l, x ∈ m) : SameBut m s t :=
  fun x hx => h x fun hl => hx (g x hl)

theorem Evaluated.trans {b : Bank} {s t u : State} (h : Evaluated b s t) (g : Evaluated b t u) : Evaluated b s u where
  links p := by
    obtain ⟨f, hf⟩ := h.links p
    obtain ⟨f', hf'⟩ := g.links p
    exact ⟨f ++ f', by rw [hf', hf]; simp⟩
  others x hx := by rw [g.others x hx, h.others x hx]
  revokedFrom := by rw [g.revokedFrom, h.revokedFrom]
  contention := by
    have time : t.time = s.time := h.rest .time (by decide)
    have prof : t.profile = s.profile := h.rest .profile (by decide)
    have := g.contention
    rw [show t.prof = s.prof by simp [State.prof, prof], time] at this
    exact h.contention.trans this
  spaces p := by rw [g.spaces, h.spaces]
  dataBus := by rw [g.dataBus, h.dataBus]
  queues p := by rw [g.queues, h.queues]
  untouched p hp := by
    have a := h.untouched p hp
    have : t.front p b = none := by simpa [State.front, a.1] using hp
    have c := g.untouched p this
    exact ⟨c.1.trans a.1, c.2.trans a.2⟩
  fault := by rw [g.fault, h.fault]
  counters p := by rw [g.counters, h.counters]
  rest := h.rest.trans g.rest

/-- A frame handed to a port is such a change. -/
theorem State.send_evaluated (b : Bank) (s : State) (p : Port) (f : OutFrame) : Evaluated b s (s.send p f) :=
  { Evaluated.refl b s with
    links := fun q => by
      by_cases h : p = q
      · subst h; exact ⟨[f], by simp [State.send, State.modLink]⟩
      · exact ⟨[], by simp [State.send, State.modLink, h]⟩
    rest := fun x hx => by cases x <;> first | rfl | exact absurd (by decide) hx }

/-- A refusal is such a change. -/
theorem State.refuse_evaluated (b : Bank) (s : State) (p : Port) (tag : Byte) (r : RefusalReason) :
    Evaluated b s (s.refuse p tag r) :=
  (State.send_evaluated b s p _).trans
    { Evaluated.refl b (s.reply p tag (.refused r)) with
      fault := rfl
      counters := fun q => by
        by_cases h : p = q
        · subst h; simp [State.refuse, State.modPortCounters]
        · simp [State.refuse, State.modPortCounters, h]
      rest := fun x hx => by cases x <;> first | rfl | exact absurd (by decide) hx }

/-- A change of the bank's state by contention alone is such a change. -/
theorem State.modBank_evaluated (s : State) (b : Bank) (x : BankState)
    (h : Contention s.time s.prof.tCONT (s.banks.look b).state x) :
    Evaluated b s (s.modBank b fun e => { e with state := x }) :=
  { Evaluated.refl b s with
    others := fun y hy => by simp [State.modBank, Ne.symm hy]
    revokedFrom := by simp [State.modBank]
    contention := by simpa [State.modBank] using h
    rest := fun x hx => by cases x <;> first | rfl | exact absurd (by decide) hx }

/-- Setting contention is such a change (R11). -/
theorem State.setContention_evaluated (s : State) (b : Bank) : Evaluated b s (s.setContention b) := by
  simp only [State.setContention]
  split
  · exact .refl b s
  · rename_i l hb
    split
    · exact .refl b s
    · rename_i hc
      have hc : l.contended = false := by simpa using hc
      have first := s.modBank_evaluated b
        (.opened { l with deadline := min l.deadline (s.time + s.prof.tCONT), contended := true })
        (by rw [hb]; exact .capped l _ hc rfl rfl rfl rfl rfl fun h => h)
      have second := first.trans (State.send_evaluated b _ l.owner.port
        ⟨(s.modBank b fun e => { e with
          state := .opened { l with deadline := min l.deadline (s.time + s.prof.tCONT), contended := true } }).frameEpoch
            l.owner.port, 0, .contended b (min l.deadline (s.time + s.prof.tCONT) - s.time)⟩)
      split
      · let l' : Lease := { l with deadline := min l.deadline (s.time + s.prof.tCONT), contended := true, warned := true }
        have capped := s.modBank_evaluated b (.opened l')
          (by rw [hb]; exact .capped l l' hc rfl rfl rfl rfl rfl fun _ => rfl)
        have told := capped.trans (State.send_evaluated b _ l.owner.port
          ⟨s.frameEpoch l.owner.port, 0, .contended b (min l.deadline (s.time + s.prof.tCONT) - s.time)⟩)
        let u := State.send s l.owner.port
          ⟨s.frameEpoch l.owner.port, 0, .contended b (min l.deadline (s.time + s.prof.tCONT) - s.time)⟩
        let v := State.send u l.owner.port
          ⟨u.frameEpoch l.owner.port, 0, .leaseWarning b (min l.deadline (s.time + s.prof.tCONT) - s.time)⟩
        have warned := told.trans (State.send_evaluated b _ l.owner.port
          ⟨u.frameEpoch l.owner.port, 0, .leaseWarning b (min l.deadline (s.time + s.prof.tCONT) - s.time)⟩)
        have same : ∀ (u : State) (f g : BankEntry → BankEntry), (u.modBank b f).modBank b g = u.modBank b (g ∘ f) := by
          intro u f g; simp [State.modBank, Table.modify_modify]
        convert warned using 1
        exact same v
          (fun e => { e with state := .opened { l with deadline := min l.deadline (s.time + s.prof.tCONT), contended := true } })
          (fun e => { e with state := .opened l' })
      · exact second
  · rename_i r hb
    exact s.modBank_evaluated b _ (by rw [hb]; exact .marked r)

/-- Erasing the first entry for a bank keeps the entries for the others. -/
theorem filter_eraseP_bank (b : Bank) (l : List Entry) :
    (l.eraseP fun e => e.bank == b).filter (fun e => e.bank != b) = l.filter fun e => e.bank != b := by
  induction l with
  | nil => rfl
  | cons e l ih =>
    by_cases h : e.bank = b
    · simp [h]
    · simp [h, ih]

/-- The front entry for a bank leaving its queue is such a change. -/
theorem State.removeFront_evaluated (s : State) (p : Port) (b : Bank) (tag : Byte) (settled : Bool)
    (h : s.front p b ≠ none) : Evaluated b s (s.removeFront p b tag settled) :=
  { Evaluated.refl b s with
    queues := fun q => by
      by_cases hq : p = q
      · subst hq; simp [State.removeFront, State.modQueue, filter_eraseP_bank]
      · simp [State.removeFront, State.modQueue, hq]
    untouched := fun q hq => by
      have : p ≠ q := fun hp => h (hp ▸ hq)
      exact ⟨by simp [State.removeFront, State.modQueue, this], rfl⟩
    rest := fun x hx => by cases x <;> first | rfl | exact absurd (by decide) hx }

/-- Freeing the slot of a front entry before it leaves its queue is such a change. -/
theorem State.freeEntrySlot_evaluated (s : State) (p : Port) (b : Bank) (e : Entry) (h : s.front p b ≠ none) :
    Evaluated b s (s.freeEntrySlot p e) := by
  have set : ∀ i, Evaluated b s (s.setSlot p i .free) := fun i =>
    { Evaluated.refl b s with
      spaces := fun q => by
        by_cases hq : p = q
        · subst hq; simp [State.setSlot, State.modMover]
        · simp [State.setSlot, State.modMover, hq]
      dataBus := rfl
      untouched := fun q hq => by
        have : p ≠ q := fun hp => h (hp ▸ hq)
        exact ⟨rfl, by simp [State.setSlot, State.modMover, this]⟩
      rest := fun x hx => by cases x <;> first | rfl | exact absurd (by decide) hx }
  cases hr : e.request <;> simp only [State.freeEntrySlot, hr] <;> first | exact .refl b s | exact set _

/-- Answering a front entry is such a change (R52). -/
theorem State.answerFront_evaluated (s : State) (p : Port) (b : Bank) (e : Entry) (a : Answer) (he : s.front p b = some e) :
    Evaluated b s (s.answerFront p e a) := by
  have hb : e.bank = b := by
    have := List.find?_some (p := fun e : Entry => e.bank == b) he
    simpa using this
  subst hb
  have reply : ∀ u : State, u.front p e.bank = s.front p e.bank → Evaluated e.bank s u →
      Evaluated e.bank s ((u.removeFront p e.bank e.tag true).freeEntrySlot p e) := by
    intro u hu h
    have hne : u.front p e.bank ≠ none := by rw [hu, he]; simp
    have first := h.trans (u.freeEntrySlot_evaluated p e.bank e hne)
    have front : (u.freeEntrySlot p e).front p e.bank ≠ none := by
      simpa [State.front] using hne
    have second := first.trans ((u.freeEntrySlot p e).removeFront_evaluated p e.bank e.tag true front)
    have comm : ((u.removeFront p e.bank e.tag true).freeEntrySlot p e) =
        ((u.freeEntrySlot p e).removeFront p e.bank e.tag true) := by
      cases hr : e.request <;> simp only [State.freeEntrySlot, hr] <;> rfl
    rw [comm]; exact second
  cases a with
  | openHit => exact reply _ rfl (State.send_evaluated _ s p _)
  | closeMoot => exact reply _ rfl (State.send_evaluated _ s p _)
  | refused r => exact reply _ rfl (State.refuse_evaluated _ s p e.tag r)

/-- A run of evaluation is such a change (R52). -/
theorem State.evalRun_evaluated (p : Port) (b : Bank) (n : Nat) (s : State) : Evaluated b s (State.evalRun p b n s) := by
  induction n generalizing s with
  | zero => exact .refl b s
  | succ n ih =>
    unfold State.evalRun
    split
    · exact .refl b s
    · rename_i e he
      split
      · exact .refl b s
      · split
        · exact s.setContention_evaluated b
        · exact .refl b s
      · exact (s.answerFront_evaluated p b e _ he).trans (ih _)

/-- Evaluating a port's front entry for a bank is such a change. -/
theorem State.evalFront_evaluated (s : State) (p : Port) (b : Bank) : Evaluated b s (s.evalFront p b) :=
  State.evalRun_evaluated p b _ s

/-- Evaluating every front entry for a bank is such a change (R48). -/
theorem State.reevaluate_evaluated (s : State) (b : Bank) : Evaluated b s (s.reevaluate b) := by
  unfold State.reevaluate
  induction allPorts generalizing s with
  | nil => exact .refl b s
  | cons p l ih => exact (s.evalFront_evaluated p b).trans (ih _)

end Sys2Proof.Machine
end

