-- ==== Sys2Proof/Laws/Arbiter.lean ====
section
/-! SUPPORT. What a grant tells of the state it is given in (R53, R60 to R67). -/

namespace Sys2Proof.Machine

/-- The oldest of a list is in the list. -/
theorem oldest_mem (l : List (Port × Entry)) (x : Port × Entry) (h : oldest l = some x) : x ∈ l := by
  induction l generalizing x with
  | nil => simp [oldest] at h
  | cons a l ih =>
    simp only [oldest] at h
    cases ho : oldest l with
    | none => simp [ho] at h; simp [h]
    | some y =>
      simp only [ho] at h
      split at h
      · cases h; exact List.mem_cons_of_mem _ (ih _ ho)
      · cases h; simp

/-- What the oldest of a list is: nothing has waited longer, and what stands before it has waited less (R66). -/
theorem oldest_spec (l : List (Port × Entry)) (x : Port × Entry) (h : oldest l = some x) :
    ∃ before after, l = before ++ x :: after ∧ (∀ y ∈ before, x.2.accepted < y.2.accepted) ∧
      ∀ y ∈ after, x.2.accepted ≤ y.2.accepted := by
  induction l generalizing x with
  | nil => simp [oldest] at h
  | cons a l ih =>
    simp only [oldest] at h
    cases ho : oldest l with
    | none =>
      simp only [ho, Option.some.injEq] at h
      subst h
      cases l with
      | nil => exact ⟨[], [], rfl, by simp, by simp⟩
      | cons b l =>
        simp only [oldest] at ho
        split at ho <;> simp_all
        split at ho <;> simp at ho
    | some y =>
      obtain ⟨before, after, rfl, hb, ha⟩ := ih y ho
      simp only [ho] at h
      split at h
      · cases h
        rename_i lt
        exact ⟨a :: before, after, rfl, List.forall_mem_cons.mpr ⟨lt, hb⟩, ha⟩
      · cases h
        rename_i le
        refine ⟨[], before ++ y :: after, rfl, by simp, fun z hz => ?_⟩
        rcases List.mem_append.mp hz with hz | hz
        · have := hb z hz; omega
        · rcases List.mem_cons.mp hz with rfl | hz
          · omega
          · have := ha z hz; omega

/-- What it is to be among the ready requests. -/
theorem State.mem_readyRequests (s : State) (aged : Bool) (p : Port) (e : Entry) (h : (p, e) ∈ s.readyRequests aged) :
    e ∈ (s.queues.look p).entries ∧ e.aged = aged ∧ s.isReady p e = true := by
  simp only [State.readyRequests, List.mem_flatMap, State.readyOf, List.mem_map, List.mem_filter, Prod.mk.injEq] at h
  obtain ⟨q, -, x, ⟨hx, hr⟩, rfl, rfl⟩ := h
  simp only [Bool.and_eq_true, beq_iff_eq] at hr
  exact ⟨hx, hr.1, hr.2⟩

/-- A granted request stands in its port's queue, has the age of its class and is ready. -/
theorem State.grantedRequest_spec (s : State) (aged : Bool) (p : Port) (e : Entry)
    (h : s.grantedRequest = some (aged, p, e)) :
    e ∈ (s.queues.look p).entries ∧ e.aged = aged ∧ s.front p e.bank = some e ∧ s.outcome p e = .candidate ∧
      s.unmet p e = none := by
  have g : s.grant = some (.request aged p e) := by
    simp only [State.grantedRequest] at h
    split at h <;> simp_all
  have m : (p, e) ∈ s.readyRequests aged := by
    simp only [State.grant] at g
    split at g
    · simp at g
    · split at g
      · simp at g
      · split at g
        · rename_i p' e' ho
          simp only [Option.some.injEq, Grant.request.injEq] at g
          obtain ⟨rfl, rfl, rfl⟩ := g
          exact oldest_mem _ _ ho
        · split at g
          · simp at g
          · rename_i p' e' rest hl
            simp only [Option.some.injEq, Grant.request.injEq] at g
            obtain ⟨rfl, rfl, rfl⟩ := g
            rw [hl]; simp
  obtain ⟨a, b, c⟩ := s.mem_readyRequests aged p e m
  simp only [State.isReady, State.isFront, Bool.and_eq_true, beq_iff_eq, Option.isNone_iff_eq_none] at c
  exact ⟨a, b, c.1.1, c.1.2, c.2⟩

/-- A granted rank operation is the one offered, and is ready (R64). -/
theorem State.grantedOperation_spec (s : State) (op : RankOperation) (h : s.grantedOperation = some op) :
    s.operationOffer = some op ∧ s.operationReady op = true := by
  have g : s.grant = some (.operation op) := by
    simp only [State.grantedOperation] at h
    split at h <;> simp_all
  have : s.readyOperation = some op := by
    simp only [State.grant] at g
    split at g
    · rename_i o ho; simp only [Option.some.injEq, Grant.operation.injEq] at g; rw [ho, g]
    · repeat' split at g
      all_goals simp at g
  simpa [State.readyOperation, Option.filter_eq_some_iff] using this

/-- A granted revocation close is ready: its bank is REVOKING (R18, R65). -/
theorem State.grantedRevocation_spec (s : State) (b : Bank) (h : s.grantedRevocation = some b) :
    s.revocationReady b = true := by
  have g : s.grant = some (.revocation b) := by
    simp only [State.grantedRevocation] at h
    split at h <;> simp_all
  have : s.readyRevocation = some b := by
    simp only [State.grant] at g
    split at g
    · simp at g
    · split at g
      · rename_i o ho; simp only [Option.some.injEq, Grant.revocation.injEq] at g; rw [ho, g]
      · repeat' split at g
        all_goals simp at g
  exact List.find?_some this

/-- The front entry for a bank is what leaves the queue at its issue. -/
theorem eraseP_front (l : List Entry) (b : Bank) (e : Entry) (h : l.find? (fun x => x.bank == b) = some e) :
    l.eraseP (fun x => x.bank == b) = l.erase e := by
  induction l with
  | nil => rfl
  | cons a l ih =>
    by_cases hb : a.bank = b
    · simp [hb] at h; subst h; simp [hb]
    · simp only [List.find?_cons, beq_eq_false_iff_ne.mpr hb] at h
      have hne : a ≠ e := by
        rintro rfl
        have := List.find?_some h
        simp [hb] at this
      rw [List.eraseP_cons_of_neg (by simpa using hb), ih h, List.erase_cons_tail (by simpa using hne)]

end Sys2Proof.Machine
end

