-- ==== Sys2Proof/Laws/Links.lean ====
section
/-! SUPPORT. What taking an inbound frame does (R136, R137), and replies in the terms the statements use. -/

namespace Sys2Proof.Machine

/-- A reply appends its frame. -/
theorem State.reply_withSent (s : State) (p : Port) (tag : Byte) (m : Message) :
    s.reply p tag m = s.withSent p [⟨s.frameEpoch p, tag, m⟩] := rfl

/-- A notice appends its frame. -/
theorem State.notice_withSent (s : State) (p : Port) (m : Message) :
    s.notice p m = s.withSent p [⟨s.frameEpoch p, 0, m⟩] := rfl

/-- Frames appended one after the other are appended together. -/
@[simp] theorem State.withSent_withSent (s : State) (p : Port) (a b : List OutFrame) :
    (s.withSent p a).withSent p b = s.withSent p (a ++ b) := by simp [State.withSent]

/-- Counting a frame in sequence. -/
theorem State.inSequence_answered (s : State) (p : Port) : s.inSequence p = s.answered p [] := by
  simp [State.inSequence, State.modLink, Table.modify, State.answered]

/-- A frame counted and then answered. -/
@[simp] theorem State.answered_withSent (s : State) (p : Port) (a b : List OutFrame) :
    (s.answered p a).withSent p b = s.answered p (a ++ b) := by simp [State.answered, State.withSent]

/-- Counting a frame changes no epoch. -/
@[simp] theorem State.answered_epoch (s : State) (p q : Port) (a : List OutFrame) : (s.answered p a).epoch? q = s.epoch? q := by
  simp only [State.epoch?, State.answered, Table.look_put]
  split
  · rename_i h; subst h; rfl
  · rfl

@[simp] theorem State.answered_frameEpoch (s : State) (p q : Port) (a : List OutFrame) :
    (s.answered p a).frameEpoch q = s.frameEpoch q := by simp [State.frameEpoch]

@[simp] theorem State.withSent_epoch (s : State) (p q : Port) (a : List OutFrame) : (s.withSent p a).epoch? q = s.epoch? q := by
  simp only [State.epoch?, State.withSent, Table.look_put]
  split
  · rename_i h; subst h; rfl
  · rfl

/-- A frame counted and a reply to it. -/
theorem State.answered_reply (s : State) (p : Port) (tag : Byte) (m : Message) :
    (s.answered p []).reply p tag m = s.answered p [⟨s.frameEpoch p, tag, m⟩] := by
  rw [State.reply_withSent, State.answered_withSent]; simp

/-- A frame counted and a refusal of it. -/
theorem State.answered_refuse (s : State) (p : Port) (tag : Byte) (r : RefusalReason) :
    (s.answered p []).refuse p tag r = s.refusedWith p tag r := by
  unfold State.refuse
  rw [State.answered_reply]
  rfl

/-- The epoch of replies to a frame of the current session. -/
theorem State.takes.frameEpoch {s : State} {p : Port} {h : Header} (t : s.takes p h) : s.frameEpoch p = h.epoch := by
  simp [State.frameEpoch, t.2]

/-- The lane of a frame of the current session is up. -/
theorem State.takes.laneUp {s : State} {p : Port} {h : Header} (t : s.takes p h) : (s.links.look p).session.laneUp = true := by
  have := t.2
  cases hs : (s.links.look p).session <;> simp_all [State.epoch?, Session.epoch?, Session.laneUp]

/-- The first two checks a frame meets, in one equation (R133, R136, R137). -/
theorem State.receive_eq (s : State) (p : Port) (h : Header) (j : Bool) (route : State → State)
    (up : (s.links.look p).session.laneUp = true) (seq : h.seq = (s.links.look p).expected) :
    s.receive p h j route = match s.sessionCheck p h j with
      | some r => s.refusedWith p h.tag r
      | none => route (s.answered p []) := by
  have check : (s.answered p []).sessionCheck p h j = s.sessionCheck p h j := by
    simp [State.sessionCheck, State.answered]
  simp only [State.receive, up, seq, ne_eq, not_true_eq_false, if_false, Bool.true_eq_false,
    State.inSequence_answered, check]
  cases s.sessionCheck p h j with
  | none => rfl
  | some r => exact s.answered_refuse p h.tag r

/-- A frame of the current session in sequence goes on to its block (R137). -/
theorem State.receive_takes (s : State) (p : Port) (h : Header) (route : State → State) (t : s.takes p h) :
    s.receive p h false route = route (s.answered p []) := by
  have : s.sessionCheck p h false = none := by
    have := t.2
    simp only [State.epoch?] at this
    simp [State.sessionCheck, this]
  rw [s.receive_eq p h false route t.laneUp t.1, this]

end Sys2Proof.Machine
end

