-- ==== Sys2Proof/Laws/PerInstr.lean ====
section
/-! SUPPORT. The family F, proved per command: the frame a command is sent in, where it is sent in one, is a request frame of
the command's own port and header, of a kind of Table 13-4 and of that kind's length (Table 13-2). -/

namespace Sys2Proof.Laws.F

open Sys2Proof.Machine

set_option Elab.async false

/-- A request kind's code names the kind. -/
theorem ofCode_code (k : RequestKind) : RequestKind.ofCode k.code = some k := by cases k <;> decide

/-- The frame of a request names its kind, has its kind's length, and carries the request's port and header. -/
def Statement (c : Instr) : Prop :=
  ∀ p bytes, frameOf c = some (p, bytes) →
    ∃ h k, c.header? = some (p, h) ∧ RequestKind.ofCode (byteAt bytes 2) = some k ∧ bytes.length = k.length ∧
      headerOf bytes = h

theorem powerOnReset (lanes : Table Bool 4) (thot : Bool) : Statement (.powerOnReset lanes thot) := by
  intro q bytes e; simp [frameOf] at e

theorem linkUp (p : Port) : Statement (.linkUp p) := by
  intro q bytes e; simp [frameOf] at e

theorem linkDown (p : Port) : Statement (.linkDown p) := by
  intro q bytes e; simp [frameOf] at e

theorem thotAsserted : Statement (.thotAsserted) := by
  intro q bytes e; simp [frameOf] at e

theorem thotDeasserted : Statement (.thotDeasserted) := by
  intro q bytes e; simp [frameOf] at e

theorem frameCrcDiscard (p : Port) (bytes : List Byte) : Statement (.frameCrcDiscard p bytes) := by
  intro q bytes e; simp [frameOf] at e

theorem frameOutOfSequence (p : Port) (seq : Byte) : Statement (.frameOutOfSequence p seq) := by
  intro q bytes e; simp [frameOf] at e

theorem join (p : Port) (h : Header) (revision : Byte) : Statement (.join p h revision) := by
  intro q bytes e
  simp only [frameOf, Option.some.injEq, Prod.mk.injEq] at e
  obtain ⟨rfl, rfl⟩ := e
  exact ⟨h, .join, rfl, ofCode_code .join, by simp [requestBytes, withCheck, bytes16, RequestKind.length], rfl⟩

theorem leave (p : Port) (h : Header) : Statement (.leave p h) := by
  intro q bytes e
  simp only [frameOf, Option.some.injEq, Prod.mk.injEq] at e
  obtain ⟨rfl, rfl⟩ := e
  exact ⟨h, .leave, rfl, ofCode_code .leave, by simp [requestBytes, withCheck, bytes16, RequestKind.length], rfl⟩

theorem leaseExtend (p : Port) (h : Header) (bank : Byte) : Statement (.leaseExtend p h bank) := by
  intro q bytes e
  simp only [frameOf, Option.some.injEq, Prod.mk.injEq] at e
  obtain ⟨rfl, rfl⟩ := e
  exact ⟨h, .leaseExtend, rfl, ofCode_code .leaseExtend, by simp [requestBytes, withCheck, bytes16, RequestKind.length], rfl⟩

theorem cancel (p : Port) (h : Header) (target : Byte) : Statement (.cancel p h target) := by
  intro q bytes e
  simp only [frameOf, Option.some.injEq, Prod.mk.injEq] at e
  obtain ⟨rfl, rfl⟩ := e
  exact ⟨h, .cancel, rfl, ofCode_code .cancel, by simp [requestBytes, withCheck, bytes16, RequestKind.length], rfl⟩

theorem sleepVote (p : Port) (h : Header) : Statement (.sleepVote p h) := by
  intro q bytes e
  simp only [frameOf, Option.some.injEq, Prod.mk.injEq] at e
  obtain ⟨rfl, rfl⟩ := e
  exact ⟨h, .sleepVote, rfl, ofCode_code .sleepVote, by simp [requestBytes, withCheck, bytes16, RequestKind.length], rfl⟩

theorem wake (p : Port) (h : Header) : Statement (.wake p h) := by
  intro q bytes e
  simp only [frameOf, Option.some.injEq, Prod.mk.injEq] at e
  obtain ⟨rfl, rfl⟩ := e
  exact ⟨h, .wake, rfl, ofCode_code .wake, by simp [requestBytes, withCheck, bytes16, RequestKind.length], rfl⟩

theorem tempReport (p : Port) (h : Header) (temperature : BitVec 16) : Statement (.tempReport p h temperature) := by
  intro q bytes e
  simp only [frameOf, Option.some.injEq, Prod.mk.injEq] at e
  obtain ⟨rfl, rfl⟩ := e
  exact ⟨h, .tempReport, rfl, ofCode_code .tempReport, by simp [requestBytes, withCheck, bytes16, RequestKind.length], rfl⟩

theorem rowOpen (p : Port) (h : Header) (bank : Byte) (row : Row) : Statement (.rowOpen p h bank row) := by
  intro q bytes e
  simp only [frameOf, Option.some.injEq, Prod.mk.injEq] at e
  obtain ⟨rfl, rfl⟩ := e
  exact ⟨h, .rowOpen, rfl, ofCode_code .rowOpen, by simp [requestBytes, withCheck, bytes16, bytes24, RequestKind.length], rfl⟩

theorem colRead (p : Port) (h : Header) (bank : Byte) (row : Row) (column : Column) (flags : Byte) : Statement (.colRead p h bank row column flags) := by
  intro q bytes e
  simp only [frameOf, Option.some.injEq, Prod.mk.injEq] at e
  obtain ⟨rfl, rfl⟩ := e
  exact ⟨h, .colRead, rfl, ofCode_code .colRead, by simp [requestBytes, withCheck, bytes16, bytes24, RequestKind.length], rfl⟩

theorem colWrite (p : Port) (h : Header) (bank : Byte) (row : Row) (column : Column) (flags : Byte) (data : Block) : Statement (.colWrite p h bank row column flags data) := by
  intro q bytes e
  simp only [frameOf, Option.some.injEq, Prod.mk.injEq] at e
  obtain ⟨rfl, rfl⟩ := e
  exact ⟨h, .colWrite, rfl, ofCode_code .colWrite, by simp [requestBytes, withCheck, bytes16, bytes24, RequestKind.length], rfl⟩

theorem rowClose (p : Port) (h : Header) (bank : Byte) : Statement (.rowClose p h bank) := by
  intro q bytes e
  simp only [frameOf, Option.some.injEq, Prod.mk.injEq] at e
  obtain ⟨rfl, rfl⟩ := e
  exact ⟨h, .rowClose, rfl, ofCode_code .rowClose, by simp [requestBytes, withCheck, bytes16, RequestKind.length], rfl⟩

theorem handedToLink (p : Port) : Statement (.handedToLink p) := by
  intro q bytes e; simp [frameOf] at e

theorem readyToLeave (p : Port) : Statement (.readyToLeave p) := by
  intro q bytes e; simp [frameOf] at e

theorem leaveComplete (p : Port) : Statement (.leaveComplete p) := by
  intro q bytes e; simp [frameOf] at e

theorem holdMet (id : HoldId) : Statement (.holdMet id) := by
  intro q bytes e; simp [frameOf] at e

theorem windowEntryLeaves : Statement (.windowEntryLeaves) := by
  intro q bytes e; simp [frameOf] at e

theorem leaseWarning (b : Bank) : Statement (.leaseWarning b) := by
  intro q bytes e; simp [frameOf] at e

theorem leaseExpiry (b : Bank) : Statement (.leaseExpiry b) := by
  intro q bytes e; simp [frameOf] at e

theorem graceEnd : Statement (.graceEnd) := by
  intro q bytes e; simp [frameOf] at e

theorem intervalTimerExpiry : Statement (.intervalTimerExpiry) := by
  intro q bytes e; simp [frameOf] at e

theorem entryAged (p : Port) (tag : Byte) : Statement (.entryAged p tag) := by
  intro q bytes e; simp [frameOf] at e

theorem writeBurstStart : Statement (.writeBurstStart) := by
  intro q bytes e; simp [frameOf] at e

theorem readBurstStart : Statement (.readBurstStart) := by
  intro q bytes e; simp [frameOf] at e

theorem writeDataEnd : Statement (.writeDataEnd) := by
  intro q bytes e; simp [frameOf] at e

theorem readDataArrival (data : Block) : Statement (.readDataArrival data) := by
  intro q bytes e; simp [frameOf] at e

theorem rowOpenIssued : Statement (.rowOpenIssued) := by
  intro q bytes e; simp [frameOf] at e

theorem colReadIssued : Statement (.colReadIssued) := by
  intro q bytes e; simp [frameOf] at e

theorem colWriteIssued : Statement (.colWriteIssued) := by
  intro q bytes e; simp [frameOf] at e

theorem rowCloseIssued : Statement (.rowCloseIssued) := by
  intro q bytes e; simp [frameOf] at e

theorem revocationCloseIssued : Statement (.revocationCloseIssued) := by
  intro q bytes e; simp [frameOf] at e

theorem refreshIssued : Statement (.refreshIssued) := by
  intro q bytes e; simp [frameOf] at e

theorem shortCalibrationIssued : Statement (.shortCalibrationIssued) := by
  intro q bytes e; simp [frameOf] at e

theorem longCalibrationIssued : Statement (.longCalibrationIssued) := by
  intro q bytes e; simp [frameOf] at e

theorem modeSetIssued : Statement (.modeSetIssued) := by
  intro q bytes e; simp [frameOf] at e

theorem powerDownEntryIssued : Statement (.powerDownEntryIssued) := by
  intro q bytes e; simp [frameOf] at e

theorem powerDownExitIssued : Statement (.powerDownExitIssued) := by
  intro q bytes e; simp [frameOf] at e

theorem selfRefreshEntryIssued : Statement (.selfRefreshEntryIssued) := by
  intro q bytes e; simp [frameOf] at e

theorem selfRefreshExitIssued : Statement (.selfRefreshExitIssued) := by
  intro q bytes e; simp [frameOf] at e

theorem longCalBusyEnd : Statement (.longCalBusyEnd) := by
  intro q bytes e; simp [frameOf] at e

theorem shortCalBusyEnd : Statement (.shortCalBusyEnd) := by
  intro q bytes e; simp [frameOf] at e

theorem lockEnd : Statement (.lockEnd) := by
  intro q bytes e; simp [frameOf] at e

theorem resetHoldEnd : Statement (.resetHoldEnd) := by
  intro q bytes e; simp [frameOf] at e

theorem clockSettleEnd : Statement (.clockSettleEnd) := by
  intro q bytes e; simp [frameOf] at e

theorem exitWaitEnd : Statement (.exitWaitEnd) := by
  intro q bytes e; simp [frameOf] at e

theorem modeLoadEnd : Statement (.modeLoadEnd) := by
  intro q bytes e; simp [frameOf] at e

theorem idleTimerExpiry : Statement (.idleTimerExpiry) := by
  intro q bytes e; simp [frameOf] at e

theorem residencyEnd : Statement (.residencyEnd) := by
  intro q bytes e; simp [frameOf] at e

theorem wakeEnd : Statement (.wakeEnd) := by
  intro q bytes e; simp [frameOf] at e

theorem start : Statement (.start) := by
  intro q bytes e; simp [frameOf] at e

theorem stop : Statement (.stop) := by
  intro q bytes e; simp [frameOf] at e

theorem commit : Statement (.commit) := by
  intro q bytes e; simp [frameOf] at e

theorem faultPop : Statement (.faultPop) := by
  intro q bytes e; simp [frameOf] at e

theorem softReset : Statement (.softReset) := by
  intro q bytes e; simp [frameOf] at e

theorem mgmtErrorClear (value : Byte) : Statement (.mgmtErrorClear value) := by
  intro q bytes e; simp [frameOf] at e

theorem alertMaskWrite (value : BitVec 16) : Statement (.alertMaskWrite value) := by
  intro q bytes e; simp [frameOf] at e

theorem stagedProfileWrite (field : Fin 38) (byte : Fin 4) (value : Byte) : Statement (.stagedProfileWrite field byte value) := by
  intro q bytes e; simp [frameOf] at e

theorem mgmtWriteBad (address : BitVec 16) (value : Byte) : Statement (.mgmtWriteBad address value) := by
  intro q bytes e; simp [frameOf] at e

theorem registerCapture (address : BitVec 16) : Statement (.registerCapture address) := by
  intro q bytes e; simp [frameOf] at e

theorem badKindFrame (p : Port) (h : Header) (kind : Byte) (length : Nat) : Statement (.badKindFrame p h kind length) := by
  intro q bytes e; simp [frameOf] at e

end Sys2Proof.Laws.F
end

