-- ==== Sys2Proof/Laws/Readiness.lean ====
section
/-! SUPPORT. What the blocks' answers about readiness say of the state: each answer of Flags.lean as the fact it stands for. -/

namespace Sys2Proof.Machine

/-- A hold is answered met exactly where it is met (R24). -/
theorem State.met_iff (s : State) (id : HoldId) : s.met id = true ↔ s.HoldMet id := by
  unfold State.met State.HoldMet Hold.metAt
  cases s.holds.holds.hold id <;> simp

/-- Room in the window is fewer than nW entries whose span lies ahead (R40). -/
theorem State.hasRoom_iff (s : State) :
    s.hasRoom = true ↔ (s.holds.window.filter fun t => decide (s.time < t + s.prof.tWS)).length < s.prof.nW := by
  simp [State.hasRoom, State.windowCount, List.countP_eq_length_filter]

/-- No drain is active exactly in phase NONE (Table 5-1). -/
theorem DrainPhase.isActive_eq_false (d : DrainPhase) : d.isActive = false ↔ d = .none := by
  cases d <;> simp [DrainPhase.isActive]

/-- A calibration is busy while its end lies ahead (R111). -/
theorem State.calibrationBusy_eq_false (s : State) : s.calibrationBusy = false ↔
    ∀ t, s.calibration.busy = .short t ∨ s.calibration.busy = .long t → t ≤ s.time := by
  unfold State.calibrationBusy
  cases s.calibration.busy <;> simp

/-- The lock window has ended where no end of it lies ahead (R113). -/
theorem State.lockEnded_iff (s : State) : s.lockEnded = true ↔ ∀ t, s.calibration.lock = some t → t ≤ s.time := by
  unfold State.lockEnded
  cases s.calibration.lock <;> simp

/-- Fewer than 4 spaces in use is a FREE space (R151). -/
theorem State.spacesInUse_lt_iff (s : State) (p : Port) :
    ¬4 ≤ s.spacesInUse p ↔ ∃ i, (s.mover.ports.look p).spaces.look i = .free := by
  unfold State.spacesInUse
  generalize (s.mover.ports.look p).spaces = t
  have free : ∀ x : ReadSpace, ¬x.inUse = true ↔ x = .free := by intro x; cases x <;> simp [ReadSpace.inUse]
  have full : t.count ReadSpace.inUse = 4 ↔ ∀ i, (t.look i).inUse = true := by
    simp [Table.count, Vector.countP_eq_size, Table.look, Vector.mem_iff_getElem, Fin.forall_iff]
    constructor
    · intro h i hi; exact h _ i hi rfl
    · rintro h a i hi rfl; exact h i hi
  have : t.count ReadSpace.inUse ≤ 4 := by
    simpa [Table.count] using Vector.countP_le_size (p := ReadSpace.inUse) (xs := t)
  rw [show ¬4 ≤ t.count ReadSpace.inUse ↔ ¬t.count ReadSpace.inUse = 4 by omega, full]
  simp [← free]

/-- The front entry for a bank is the first of its queue that names the bank (R47). -/
theorem State.isFront_iff (s : State) (p : Port) (e : Entry) : s.isFront p e = true ↔
    ∃ before after, (s.queues.look p).entries = before ++ e :: after ∧ ∀ x ∈ before, x.bank ≠ e.bank := by
  simp [State.isFront, State.front, List.find?_eq_some_iff_append]

/-- All banks are CLOSED. -/
theorem State.allClosed_iff (s : State) : s.allClosed = true ↔ ∀ b, (s.banks.look b).state = .closed := by
  have : ∀ x : BankState, x.isClosed = true ↔ x = .closed := by intro x; cases x <;> simp [BankState.isClosed]
  simp [State.allClosed, Table.all_iff, this]

/-- No burst whose end lies ahead (R37, R41). -/
theorem State.burstCount_eq_zero (s : State) : s.burstCount = 0 ↔ ∀ x ∈ s.holds.bursts, x.start + 4 ≤ s.time := by
  simp only [State.burstCount, List.countP_eq_zero, decide_eq_true_eq, Nat.not_lt]
  rfl

end Sys2Proof.Machine
end

