-- ==== Sys2Proof/Laws/Registers.lean ====
section
/-! SUPPORT. The register window: its registers lie apart, so that an address names at most one (R175). -/

namespace Sys2Proof.Machine

/-- The registers stand in rising order and do not overlap (Table 13-6). -/
theorem registers_apart : (registers.map fun r => (r.base, r.size)).Pairwise (fun x y => x.1 + x.2 ≤ y.1) := by
  decide +kernel

/-- An address within a register names that register. -/
theorem registerAt_of_mem {r : Register} (h : r ∈ registers) (a : Nat) (h1 : r.base ≤ a) (h2 : a < r.base + r.size) :
    registerAt a = some r := by
  have apart := List.pairwise_map.mp registers_apart
  unfold registerAt
  generalize registers = l at h apart
  induction l with
  | nil => cases h
  | cons x l ih =>
    rw [List.pairwise_cons] at apart
    rcases List.mem_cons.mp h with rfl | h
    · simp [h1, h2]
    · have := apart.1 r h
      rw [List.find?_cons_of_neg (by simp; omega)]
      exact ih h apart.2

/-- An address within no register names none (R171). -/
theorem registerAt_eq_none (a : Nat) (h : ∀ r ∈ registers, a < r.base ∨ r.base + r.size ≤ a) : registerAt a = none := by
  unfold registerAt
  rw [List.find?_eq_none]
  intro r hr
  have := h r hr
  simp
  omega

end Sys2Proof.Machine
end

