-- ==== Sys2Proof/Laws/Transfers.lean ====
section
/-! SUPPORT. The bytes of a management transfer and the beats of a burst: what each is, said once (R150, R175). -/

namespace Sys2Proof.Machine

/-- A transfer accesses its bytes in their order. -/
@[simp] theorem accessesFrom_bytes (a : BitVec 16) (l : List Byte) : (accessesFrom a l).map Prod.snd = l := by
  induction l generalizing a with
  | nil => rfl
  | cons v l ih => simp [accessesFrom, ih]

/-- A transfer accesses consecutive addresses. -/
theorem accessesFrom_addresses (a : BitVec 16) (l : List Byte) :
    (accessesFrom a l).map Prod.fst = addressesFrom a l.length := by
  induction l generalizing a with
  | nil => rfl
  | cons v l ih => simp [accessesFrom, addressesFrom, ih]

/-- Below the top of the window the k-th address lies k above the first. -/
theorem addressesFrom_look (a : BitVec 16) (n k : Nat) (hk : k < n) (h : a.toNat + k < 65536) :
    (addressesFrom a n)[k]? = some (a + BitVec.ofNat 16 k) := by
  induction n generalizing a k with
  | zero => omega
  | succ n ih =>
    cases k with
    | zero => simp [addressesFrom]
    | succ k =>
      have ha : a ≠ 0xFFFF#16 := by rintro rfl; simp at h; omega
      have hn : (a + 1).toNat = a.toNat + 1 := by
        rw [BitVec.toNat_add]; simp; omega
      simp only [addressesFrom, List.getElem?_cons_succ, nextAddress, if_neg ha]
      rw [ih _ k (by omega) (by omega)]
      congr 1
      apply BitVec.eq_of_toNat_eq
      simp [BitVec.toNat_add]
      omega

/-- Each write of a transfer is one command. -/
@[simp] theorem commandsOfWrites_length (mask : BitVec 9) (l : List (BitVec 16 × Byte)) :
    (commandsOfWrites mask l).length = l.length := by
  induction l generalizing mask with
  | nil => rfl
  | cons x l ih => simp [commandsOfWrites, ih]

/-- A ck of a WRITE burst carries two beats of it (R150). -/
theorem DataBus.beats_driving (d : Block) (start j : Nat) (h : j < 4) :
    (DataBus.driving d start).beats (start + j) = [beat d (2 * j), beat d (2 * j + 1)] := by
  simp [DataBus.beats, h]

/-- Outside the 4 ck of a WRITE burst nothing is driven (R150). -/
theorem DataBus.beats_outside (d : Block) (start now : Nat) (h : now < start ∨ start + 4 ≤ now) :
    (DataBus.driving d start).beats now = [] := by
  simp only [DataBus.beats]
  rw [if_neg (by omega)]

end Sys2Proof.Machine
end

