-- ==== Sys2Proof/Tests/Slice0.lean ====
section
/-! SUPPORT. Tests on small states: the checks of well-formedness, bytes written out from the manual's tables, the manual's worked
figures, and for each statement a state and operands that meet its hypotheses (`witness_…`). -/

namespace Sys2Proof.Tests

open Sys2Proof.Machine

set_option Elab.async false

/-! ### Helpers -/

/-- The state a command leaves, itself if it has none. -/
def after (c : Instr) (s : State) : State :=
  match exec c s with
  | .next t => t
  | .fault _ => s
  | .refused _ => s

/-- A joined port. -/
def joined (e : Byte) : PortLink := ⟨.joined e, 0, false, 0, [], none⟩

/-- An ACTIVE rank at rank time 1000 with MP1 (epoch 1) and MP2 (epoch 2) joined and awake, MP0 and MP3 linked. -/
def base : State := { State.reset with
  time := 1000
  links := ((Table.fill 4 (PortLink.reset true)).put 1 (joined 1)).put 2 (joined 2)
  rank := { RankController.reset with
    state := .active, votes := ((Table.fill 4 none).put 1 (some .awake)).put 2 (some .awake) }
  refresh := { RefreshUnit.reset with timer := some 5500, balance := -2 }
  profile := { ProfileStore.reset with valid := true } }

/-- The base with another rank state. -/
def inState (r : RankState) : State := { base with rank := { base.rank with state := r } }

/-- A lease of MP1 on row 7 with a deadline. -/
def lease (deadline : Nat) : Lease := ⟨7, ⟨1, 1⟩, deadline, 0, false, false⟩

/-- The base with bank 5 in a state. -/
def bank5 (x : BankState) : State := { base with banks := base.banks.put 5 ⟨x, none⟩ }

/-- The base with bank 5 in a state and entries in MP1's queue, their tags outstanding. -/
def queued (x : BankState) (l : List Entry) : State :=
  { bank5 x with queues := base.queues.put 1 ⟨l, l.map Entry.tag⟩ }

/-- An entry of tag 9 for bank 5. -/
def entry (r : Request) : Entry := ⟨9, 5, r, 900, false, none⟩

/-- A block of one byte. -/
def block (x : Byte) : Block := Vector.replicate 64 x

/-- The base with slot 3 of MP1 HELD for tag 9. -/
def held (s : State) : State :=
  let port : MoverPort := { MoverPort.reset with slots := MoverPort.reset.slots.put 3 (.held 9 1 (block 0xA5)) }
  { s with mover := { s.mover with ports := s.mover.ports.put 1 port } }

/-- The header of MP1's next frame under its epoch. -/
def head (tag : Byte) : Header := ⟨0, 1, tag⟩

/-- A drain with these purposes. -/
def draining (phase : DrainPhase) (u : Purposes) : State := { base with drain := ⟨phase, u, false⟩ }

/-! ### Well-formedness: an ill-formed term for each check -/

theorem test_wellFormed_refuses_sound_discard : (Instr.frameCrcDiscard 0 (withCheck [0, 1, 2, 3])).wellFormed = false := by
  decide +kernel

theorem test_wellFormed_refuses_good_write : (Instr.mgmtWriteBad 0x0011 0x05).wellFormed = false := by decide +kernel

theorem test_wellFormed_refuses_bad_code_boundary :
    (Instr.mgmtWriteBad 0x0011 0x06).wellFormed = true ∧ (Instr.mgmtWriteBad 0x0197 0).wellFormed = false ∧
      (Instr.mgmtWriteBad 0x0198 0).wellFormed = true := by decide +kernel

theorem test_wellFormed_refuses_capture_of_a_byte_register :
    (Instr.registerCapture 0x0013).wellFormed = false ∧ (Instr.registerCapture 0x0031).wellFormed = false ∧
      (Instr.registerCapture 0x0030).wellFormed = true := by decide +kernel

theorem test_wellFormed_refuses_request_kind : (Instr.badKindFrame 0 ⟨0, 0, 0⟩ 0x13 7).wellFormed = false := by decide +kernel

theorem test_wellFormed_refuses_short_frame : (Instr.badKindFrame 0 ⟨0, 0, 0⟩ 0x13 5).wellFormed = false := by decide +kernel

/-! ### Bytes -/

/-- The check of the nine bytes "123456789", the known value of the manual's polynomial, start value and bit order (R172). -/
theorem test_frame_check :
    crc16 [0x31, 0x32, 0x33, 0x34, 0x35, 0x36, 0x37, 0x38, 0x39] = 0x29B1#16 := by decide +kernel

/-- A ROW_OPEN written out by Table 13-2: bank 5, row 1200 as 00 04 B0. -/
theorem test_decode_row_open :
    commandOfFrame 1 (withCheck [0x07, 0x2A, 0x10, 0x05, 0x05, 0x00, 0x04, 0xB0]) = .rowOpen 1 ⟨7, 42, 5⟩ 5 1200 := by
  decide +kernel

/-- A COL_READ written out: bank 5, row 1200, column 64 as 00 40, auto-close. -/
theorem test_decode_col_read :
    commandOfFrame 1 (withCheck [0x08, 0x2A, 0x11, 0x06, 0x05, 0x00, 0x04, 0xB0, 0x00, 0x40, 0x01]) =
      .colRead 1 ⟨8, 42, 6⟩ 5 1200 64 1 := by decide +kernel

/-- A COL_WRITE written out: bank 15, row 01 02 03, column 1016 as 03 F8, no auto-close; byte 11 is its first data byte. -/
theorem test_decode_col_write :
    (match RequestKind.colWrite.read 3 ([0x08, 0x2A, 0x12, 0x06, 0x0F, 0x01, 0x02, 0x03, 0x03, 0xF8, 0x00, 0x5A, 0x5B] ++
        List.replicate 61 0x77 ++ [0xA5]) with
      | .colWrite p h bank row column flags data =>
        (p, h, bank, row, column) = (3, ⟨8, 42, 6⟩, 15, 0x010203, 0x03F8) ∧
          (flags, data[0], data[1], data[63]) = (0, 0x5A, 0x5B, 0xA5)
      | _ => False) := by
  simp only [RequestKind.read]
  decide +kernel

/-- A TEMP_REPORT of −40 written out: FF D8. -/
theorem test_decode_temp_report :
    commandOfFrame 0 (withCheck [0x00, 0x01, 0x07, 0x09, 0xFF, 0xD8]) = .tempReport 0 ⟨0, 1, 9⟩ 0xFFD8 := by decide +kernel

/-- A JOIN, a LEASE_EXTEND and a CANCEL written out. -/
theorem test_decode_one_byte_bodies :
    commandOfFrame 0 (withCheck [0, 0, 0x01, 3, 1]) = .join 0 ⟨0, 0, 3⟩ 1 ∧
      commandOfFrame 0 (withCheck [0, 1, 0x03, 3, 11]) = .leaseExtend 0 ⟨0, 1, 3⟩ 11 ∧
      commandOfFrame 0 (withCheck [0, 1, 0x04, 3, 77]) = .cancel 0 ⟨0, 1, 3⟩ 77 ∧
      commandOfFrame 0 (withCheck [0, 1, 0x13, 3, 11]) = .rowClose 0 ⟨0, 1, 3⟩ 11 := by decide +kernel

/-- LEAVE, SLEEP_VOTE and WAKE written out. -/
theorem test_decode_empty_bodies :
    commandOfFrame 2 (withCheck [4, 1, 0x02, 3]) = .leave 2 ⟨4, 1, 3⟩ ∧
      commandOfFrame 2 (withCheck [4, 1, 0x05, 3]) = .sleepVote 2 ⟨4, 1, 3⟩ ∧
      commandOfFrame 2 (withCheck [4, 1, 0x06, 3]) = .wake 2 ⟨4, 1, 3⟩ := by decide +kernel

/-- A frame of no request kind, one of a wrong length, and one whose check fails (R135, R137, R173). -/
theorem test_decode_frames_that_are_no_request :
    commandOfFrame 0 (withCheck [0, 1, 0x30, 3]) = .badKindFrame 0 ⟨0, 1, 3⟩ 0x30 6 ∧
      commandOfFrame 0 (withCheck [0, 1, 0x02, 3, 0]) = .badKindFrame 0 ⟨0, 1, 3⟩ 0x02 7 ∧
      commandOfFrame 0 [0, 1, 0x02, 3, 0, 0] = .frameCrcDiscard 0 [0, 1, 0x02, 3, 0, 0] := by decide +kernel

/-- Management writes at the edges of Table 13-6. -/
theorem test_decode_writes :
    commandOfWrite 0x1FF 0x0011 0x02 = .stop ∧ commandOfWrite 0x1FF 0x0010 0x01 = .mgmtErrorClear 0x01 ∧
      commandOfWrite 0x1FF 0x0020 0x00 = .alertMaskWrite 0x0100 ∧ commandOfWrite 0x1FF 0x0021 0x00 = .alertMaskWrite 0x00FF ∧
      commandOfWrite 0x1FF 0x0107 0xAB = .stagedProfileWrite 1 3 0xAB ∧
      commandOfWrite 0x1FF 0x0197 0xAB = .stagedProfileWrite 37 3 0xAB ∧
      commandOfWrite 0x1FF 0x0198 0xAB = .mgmtWriteBad 0x0198 0xAB := by decide +kernel

/-- The opcode table gives no bits, so no word spells a command and placing one changes nothing. -/
theorem test_no_word_spells_a_command : decodeTableWord 16 0x1234 = none ∧ base.withFetchWord 16 0x1234 = base :=
  ⟨rfl, rfl⟩

/-! ### Resets and the profile -/

theorem test_power_on_lanes :
    (after (.powerOnReset ((Table.fill 4 false).put 2 true) true) base).links.look 2 = PortLink.reset true ∧
      (after (.powerOnReset ((Table.fill 4 false).put 2 true) true) base).refresh.thermal = .hot := by decide +kernel

theorem test_soft_reset_in_sleep_is_retained :
    (after .softReset (inState (.sleep false))).rank.retained = true ∧ (after .softReset base).rank.retained = false := by
  decide +kernel

/-- The defaults pass every check (Table 11-1). -/
theorem test_commit_defaults : (after .commit State.reset).profile.commit = .commitOk := by decide +kernel

/-- Class K4 with RD 10 fails check 2, with RD 11 at the default access floor check 39 (Tables 11-2 and 11-3). -/
theorem test_commit_rejections :
    (after .commit (after (.stagedProfileWrite 0 0 4) State.reset)).profile.commit = .commitRejected 2 ∧
      (after .commit (after (.stagedProfileWrite 1 0 11) (after (.stagedProfileWrite 0 0 4) State.reset))).profile.commit =
        .commitRejected 39 := by decide +kernel

theorem witness_CommitValidatesTheStagedCopy :
    base.rank.state ≠ .offline ∧ State.reset.rank.state = .offline ∧
      (∀ x ∈ State.reset.profile.staged.checks, x = true) ∧
      (after (.stagedProfileWrite 0 0 0) State.reset).profile.staged.checks.head? = some false := by decide +kernel

theorem witness_StartBeginsTheBringUp :
    base.rank.state ≠ .offline ∧ State.reset.profile.valid = false ∧
      ((after .commit State.reset).rank.state = .offline ∧ (after .commit State.reset).profile.valid = true) := by
  decide +kernel

/-- START on the full path: RESET_HOLD ends tRST after (R118). -/
theorem test_start : (after .start (after .commit State.reset)).rank.state = .bringUp .full (.resetHold 143000) := by
  decide +kernel

/-- STOP in each of the states of its table. -/
theorem witness_StopInEachRankState :
    base.rank.stopPending = false ∧ base.rank.state = .active ∧ base.drain.phase = .none ∧
      (bank5 (.opened (lease 3000))).banks.look 5 = ⟨.opened (lease 3000), none⟩ ∧
      (after .stop (inState (.powerDown ⟨1003, false, false⟩))).rank.stopPending = true ∧
      (after .stop (inState (.sleep false))).rank.state = .offline ∧
      (after .stop (inState (.waking 1050))).rank.stopPending = true ∧
      (after .stop (inState (.bringUp .full (.longCal true)))).rank.state = .offline := by decide +kernel

theorem test_stop_revokes : ((after .stop (bank5 (.opened (lease 3000)))).banks.look 5).state =
    .revoking ⟨7, ⟨1, 1⟩, false, .stop⟩ := by decide +kernel

/-! ### Links and sessions -/

theorem witness_LaneChangesWithoutASession :
    (State.reset.links.look 0).session = .down ∧ (base.links.look 1).session ≠ .down ∧ (base.links.look 0).session = .linked :=
  by decide +kernel

theorem witness_LinkDownEndsTheSession :
    base.epoch? 1 = some 1 ∧ base.rank.sleepBegun = false ∧ (∃ q : Port, q ≠ 1 ∧ base.rank.votes.look q = some .awake) ∧
      ((bank5 (.opened (lease 3000))).banks.look 5).state.owner? = some ⟨1, 1⟩ ∧
      ((bank5 (.revoking ⟨7, ⟨1, 1⟩, false, .expired⟩)).banks.look 5).state.owner? = some ⟨1, 1⟩ ∧
      (base.banks.look 5).state.owner? ≠ some ⟨1, 1⟩ := by decide +kernel

theorem test_link_down_revokes : ((after (.linkDown 1) (bank5 (.opened (lease 3000)))).banks.look 5).state =
    .revoking ⟨7, ⟨1, 1⟩, false, .portLost⟩ := by decide +kernel

/-- The base with MP2 VOTED, its lease on bank 6 and its report of 90, at a TH of 85 that no evaluation has met yet. -/
def lossToHot : State :=
  { base with
    banks := base.banks.put 6 ⟨.opened ⟨7, ⟨2, 2⟩, 3000, 0, false, false⟩, none⟩
    rank := { base.rank with votes := base.rank.votes.put 2 (some .voted) }
    refresh := { base.refresh with table := base.refresh.table.put 2 (some 90) } }

/-- The loss of the one AWAKE master begins a sleep entry, and its evaluation of the thermal state finds a report of 90 that stands
at TH = 85: the THERMAL notice of step 7 comes before the DRAIN notice of the start (R76, R143), and SLEEP is withdrawn (R83). -/
theorem test_thermal_before_drain :
    ((after (.linkDown 1) lossToHot).links.look 2).outbound =
        [⟨2, 0, .thermal .hot⟩, ⟨2, 0, .drain 200 ⟨false, false, true, false⟩⟩] ∧
      (after (.linkDown 1) lossToHot).drain = .idle ∧ (after (.linkDown 1) lossToHot).rank.sleepBegun = false := by
  decide +kernel

theorem witness_DamagedAndLostFramesAreDiscarded :
    (base.links.look 1).session ≠ .down ∧ [(0 : Byte), 1, 2, 3, 4].length < 6 ∧
      [(0 : Byte), 1, 2, 3, 4, 5] ≠ withCheck [0, 1, 2, 3] ∧ (5 : Byte) ≠ (base.links.look 1).expected ∧
      (base.links.look 1).resync = false ∧ ((after (.frameOutOfSequence 1 5) base).links.look 1).resync = true ∧
      (Instr.wake 1 ⟨5, 1, 3⟩).header? = some (1, ⟨5, 1, 3⟩) ∧ (State.reset.links.look 1).session = .down := by
  decide +kernel

/-- One RESYNC for two frames out of sequence (section 9.10). -/
theorem test_one_resync :
    ((after (.frameOutOfSequence 1 6) (after (.frameOutOfSequence 1 5) base)).links.look 1).outbound =
      [⟨1, 0, .resync 0⟩] := by decide +kernel

theorem witness_SessionChecksRefuse :
    (Instr.leave 0 ⟨0, 9, 3⟩).header? = some (0, ⟨0, 9, 3⟩) ∧ base.epoch? 0 = none ∧ (Instr.leave 0 ⟨0, 9, 3⟩).isJoin = false ∧
      base.epoch? 1 = some 1 ∧ (9 : Byte) ≠ 1 ∧ (Instr.badKindFrame 1 ⟨0, 1, 3⟩ 0x20 6).header? = some (1, ⟨0, 1, 3⟩) ∧
      (Instr.badKindFrame 0 ⟨0, 1, 3⟩ 0x01 6).isJoin = true ∧
      (Instr.badKindFrame 0 ⟨0, 1, 3⟩ 0x01 6).header? = some (0, ⟨0, 1, 3⟩) := by decide +kernel

theorem test_bad_kind : ((after (.badKindFrame 1 ⟨0, 1, 3⟩ 0x20 6) base).links.look 1).outbound =
    [⟨1, 3, .refused .badKind⟩] := by decide +kernel

theorem witness_JoinOpensASession :
    (base.links.look 0).session = .linked ∧ (0 : Byte) = (base.links.look 0).expected := by decide +kernel

/-- Epoch 255 is followed by 1 (R139). -/
theorem test_join_epoch_wraps :
    ((after (.join 0 ⟨0, 0, 4⟩ 1) { base with epochCounter := 255 }).links.look 0).session = .joined 1 := by decide +kernel

theorem witness_RejoinReplacesTheSession : base.epoch? 1 = some 1 ∧ (0 : Byte) = (base.links.look 1).expected ∧
    ((bank5 (.opened (lease 3000))).banks.look 5).state.owner? = some ⟨1, 1⟩ := by decide +kernel

theorem test_rejoin : ((after (.join 1 ⟨0, 0, 4⟩ 1) { base with epochCounter := 2 }).links.look 1).outbound =
    [⟨3, 4, .welcome⟩, ⟨3, 0, .rankState .active⟩] := by decide +kernel

/-- A rejoin of the one AWAKE master begins a sleep entry at the session's end and withdraws it at the join: the idle timer stops
at that drain's start and starts anew, at tIDLE = 400, at its end (R97, R124). -/
theorem test_rejoin_restarts_the_idle_timer :
    (after (.join 1 ⟨0, 0, 4⟩ 1)
      { base with rank := { base.rank with idle := .expired, votes := base.rank.votes.put 2 (some .voted) } }).rank.idle =
      .running 1400 := by decide +kernel

/-- The base with MP1 LEAVING, its LEAVE of tag 6. -/
def leaving (asked report : Bool) : State :=
  { base with links := base.links.put 1 { joined 1 with session := .leaving 1 6 asked report } }

theorem witness_LeaveAsksAndCompletes :
    base.takes 1 (head 3) ∧ (base.links.look 1).session = .joined 1 ∧ (leaving false false).takes 1 (head 3) ∧
      ((leaving false false).links.look 1).session = .leaving 1 6 false false ∧
      (∃ q : Port, q ≠ 1 ∧ (leaving false false).rank.votes.look q = some .awake) ∧
      ((leaving false false).queues.look 1).entries = [] ∧
      (∀ i, ((leaving false false).mover.ports.look 1).slots.look i = .free) ∧
      (∀ i, ((leaving false false).mover.ports.look 1).spaces.look i = .free) ∧
      ((leaving true true).links.look 1).session = .leaving 1 6 true true ∧ ((leaving true true).links.look 1).outbound = [] ∧
      (leaving true true).ownsAny ⟨1, 1⟩ = false := by
  and_intros <;> decide +kernel

/-- BYE answers the LEAVE under its tag (R138, Table 13-1). -/
theorem test_leave_complete : ((after (.leaveComplete 1) (leaving true true)).links.look 1).outbound = [⟨1, 6, .bye⟩] := by
  decide +kernel

/-- A second LEAVE has no further effect (R141): the tag kept for the BYE is the first one's. -/
theorem test_second_leave :
    ((after (.leave 1 ⟨1, 1, 5⟩) (after (.leave 1 (head 3)) base)).links.look 1).session = .leaving 1 3 false false := by
  decide +kernel

theorem test_ready_to_leave : ((after (.readyToLeave 1) (leaving false false)).links.look 1).session = .leaving 1 6 true true := by
  decide +kernel

theorem witness_HeadFrameHandedToLink :
    (base.links.look 1).session ≠ .down ∧ (base.links.look 1).outbound = [] ∧
      ((after (.wake 1 (head 3)) base).links.look 1).outbound = [⟨1, 3, .wakeNoted⟩] := by decide +kernel

/-- WAKE_NOTED as the link takes it (Table 13-1). -/
theorem test_handed_to_link : ((after (.handedToLink 1) (after (.wake 1 (head 3)) base)).links.look 1).lastFrame =
    some (withCheck [0, 1, 0x37, 3]) := by decide +kernel

/-! ### Requests -/

theorem witness_LeaseExtendAnswers :
    base.takes 1 (head 3) ∧ 16 ≤ (16 : Byte).toNat ∧ (15 : Byte).toNat = (15 : Bank).val ∧
      (∀ l, (base.banks.look 5).state = .opened l → l.owner ≠ ⟨1, 1⟩) ∧
      (lease 3000).owner = ⟨1, 1⟩ ∧ (lease 3000).contended = false ∧
      (lease 3000).extensions < (bank5 (.opened (lease 3000))).prof.maxExtensions ∧
      base.prof.maxExtensions ≤ ({ lease 3000 with extensions := 3 } : Lease).extensions :=
  ⟨⟨by decide +kernel, by decide +kernel⟩, by decide +kernel, by decide +kernel,
    fun l h => absurd h (by rw [show (base.banks.look 5).state = .closed by decide +kernel]; exact nofun), by decide +kernel,
    by decide +kernel, by decide +kernel, by decide +kernel⟩

/-- The extension of section 1's worked example: deadline now + 2000, two extensions left. -/
theorem test_lease_extend : ((after (.leaseExtend 1 (head 11) 5) (bank5 (.opened (lease 1700)))).links.look 1).outbound =
    [⟨1, 11, .extended 5 2000 2⟩] := by decide +kernel

theorem witness_CancelRemovesOrMisses :
    (queued .closed [entry .rowClose]).takes 1 (head 3) ∧
      (∀ e ∈ ((queued .closed [entry .rowClose]).queues.look 1).entries, e.tag ≠ 8) ∧
      ((queued .closed [entry .rowClose]).queues.look 1).entries = [] ++ entry .rowClose :: [] ∧
      (queued .closed [entry .rowClose]).awakeMaster := by
  and_intros <;> decide +kernel

theorem test_cancel_frees_the_slot :
    ((after (.cancel 1 (head 3) 9) (held (queued (.opened (lease 3000)) [entry (.colWrite 7 0 false 3)]))).mover.ports.look 1).slots.look
      3 = .free := by decide +kernel

/-- MP2 VOTED and MP1 AWAKE with a lease on bank 5. -/
def lastVote : State :=
  { bank5 (.opened (lease 3000)) with rank := { base.rank with votes := base.rank.votes.put 2 (some .voted) } }

theorem witness_VotesAreTakenAndJudged :
    base.takes 1 (head 3) ∧ base.rank.votes.look 1 ≠ some .voted ∧ base.rank.sleepBegun = false ∧
      (lastVote.takes 1 (head 3) ∧ lastVote.rank.sleepBegun = false ∧ lastVote.drain.phase = .none ∧
        (after (.sleepVote 1 (head 3)) lastVote).rank.sleepBegun = true) ∧
      (∃ w, (inState (.sleep false)).rank.state = .sleep w) := by
  and_intros <;> decide +kernel

/-- The last vote starts the drain in GRACE, for tGR = 200, and MP1 with its OPEN bank is sent DRAIN after the vote's answer (R75,
R76). -/
theorem test_drain_starts :
    (after (.sleepVote 1 (head 3)) lastVote).drain = ⟨.grace 1200, ⟨false, false, true, false⟩, false⟩ ∧
      ((after (.sleepVote 1 (head 3)) lastVote).links.look 1).outbound =
        [⟨1, 3, .voteNoted⟩, ⟨1, 0, .drain 200 ⟨false, false, true, false⟩⟩] ∧
      ((after (.sleepVote 1 (head 3)) lastVote).links.look 2).outbound = [] := by decide +kernel

/-- Both sessions voted: sleep entry begins, and with all banks CLOSED its drain is at once in SERVICE (R80, R128). -/
theorem test_unanimity : (after (.sleepVote 2 ⟨0, 2, 4⟩) (after (.sleepVote 1 (head 3)) base)).drain =
    ⟨.service, ⟨false, false, true, false⟩, false⟩ := by decide +kernel

theorem test_wake_in_sleep : (after (.wake 1 (head 3)) (inState (.sleep false))).rank.state = .sleep true := by decide +kernel

theorem witness_TemperatureReportsAreEvaluated : base.takes 1 (head 3) ∧ base.refresh.thermal = .normal ∧
    (after (.tempReport 1 (head 3) 85) base).refresh.thermal = .hot ∧
    (after (.tempReport 1 (head 3) 84) base).refresh.thermal = .normal := by
  and_intros <;> decide +kernel

theorem test_temp_report_clamped : (after (.tempReport 1 (head 3) 0x8000) base).refresh.table.look 1 = some (-40) := by
  decide +kernel

theorem witness_ThotChangesAreEvaluated : (after .thotAsserted base).refresh.thermal = .hot ∧
    (after .thotDeasserted (after .thotAsserted base)).refresh.thermal = .normal := by decide +kernel

theorem test_thot_shortens_the_interval : (after .thotAsserted base).refresh.timer = some 3750 := by decide +kernel

theorem witness_ArrivalRefusedInOrder :
    (Instr.rowOpen 1 (head 3) 16 7).arrival? = some (1, head 3, 16, .rowOpen 7) ∧ base.takes 1 (head 3) ∧
      FirstOf (base.arrivalFailures 1 3 16 (.rowOpen 7)) .addressRange := by
  refine ⟨rfl, ⟨by decide +kernel, by decide +kernel⟩, ?_⟩
  have h : (base.links.look 1).session = .joined 1 := by decide +kernel
  have r : base.rank.state = .active := rfl
  simp [State.arrivalFailures, FirstOf, h, r]

theorem test_arrival_order :
    ((after (.rowClose 1 (head 9) 16) (queued .closed [entry .rowClose])).links.look 1).outbound =
        [⟨1, 9, .refused .addressRange⟩] ∧
      ((after (.rowClose 1 (head 9) 15) (queued .closed [entry .rowClose])).links.look 1).outbound =
        [⟨1, 9, .refused .duplicateTag⟩] := by decide +kernel

/-- The base admits a ROW_OPEN of MP1 for bank 5. -/
theorem base_admits : base.Admits 1 3 5 (.rowOpen 7) 5 0 := by
  have h : (base.links.look 1).session = .joined 1 := by decide +kernel
  have r : base.rank.state = .active := rfl
  have q : base.queues.look 1 = ⟨[], []⟩ := by decide +kernel
  have c : base.prof.rowCount = 65536 := by decide +kernel
  refine ⟨?_, by decide +kernel, by rintro ⟨_, _, _, _, h⟩; cases h⟩
  simp [State.arrivalFailures, h, r, q, Arrival.fits, c]

/-- Bank 5 REVOKING under MP1's session. -/
def revoked : State := bank5 (.revoking ⟨7, ⟨1, 1⟩, false, .drain⟩)

theorem witness_AcceptedRequestJoinsTheQueue :
    (Instr.rowOpen 1 (head 3) 5 7).arrival? = some (1, head 3, 5, .rowOpen 7) ∧ base.takes 1 (head 3) ∧
      base.Admits 1 3 5 (.rowOpen 7) 5 0 ∧
      evaluate ⟨1, 1⟩ ((Arrival.rowOpen 7).entry 3 5 0 1000).request (base.banks.look 5) = .candidate ∧
      revoked.takes 1 (head 3) ∧ revoked.Admits 1 3 5 (.rowOpen 7) 5 0 ∧
      (revoked.banks.look 5).state = .revoking ⟨7, ⟨1, 1⟩, false, .drain⟩ := by
  refine ⟨rfl, ?_, base_admits, ?_, ?_, base_admits, ?_⟩ <;> and_intros <;> decide +kernel

/-- A ROW_OPEN for a bank REVOKING under its own session waits, and sets no contention (R11, R49). -/
theorem test_row_open_waits_for_its_own_bank :
    ((after (.rowOpen 1 (head 3) 5 7) revoked).banks.look 5).state = .revoking ⟨7, ⟨1, 1⟩, false, .drain⟩ ∧
      ((after (.rowOpen 1 (head 3) 5 7) revoked).queues.look 1).entries.map Entry.waiting = [some .contention] := by
  decide +kernel

theorem test_col_write_takes_the_lowest_slot :
    ((after (.colWrite 1 (head 3) 5 7 8 0 (block 1)) (bank5 (.opened (lease 3000)))).mover.ports.look 1).slots.look 0 =
      .held 3 1 (block 1) := by decide +kernel

theorem test_col_read_not_owner : ((after (.colRead 1 (head 3) 5 7 8 0) base).links.look 1).outbound =
    [⟨1, 3, .refused .notOwner⟩] := by decide +kernel

theorem witness_FrontEntryAnsweredAtArrival :
    base.takes 1 (head 3) ∧ base.Admits 1 3 5 (.rowOpen 7) 5 0 ∧ (∀ e ∈ (base.queues.look 1).entries, e.bank ≠ 5) ∧
      evaluate ⟨1, 1⟩ (.rowOpen 7) ((bank5 (.opened (lease 3000))).banks.look 5) = .answer .openHit ∧
      evaluate ⟨1, 1⟩ .rowClose (base.banks.look 5) = .answer .closeMoot ∧
      evaluate ⟨1, 1⟩ (.colRead 7 0 false) (base.banks.look 5) = .answer (.refused .notOwner) := by
  refine ⟨?_, base_admits, ?_⟩ <;> and_intros <;> decide +kernel

theorem test_row_open_hit : ((after (.rowOpen 1 (head 3) 5 7) (bank5 (.opened (lease 3000)))).links.look 1).outbound =
    [⟨1, 3, .openHit⟩] := by decide +kernel

theorem test_row_close_moot : ((after (.rowClose 1 (head 3) 5) base).links.look 1).outbound = [⟨1, 3, .closeMoot⟩] := by
  decide +kernel

theorem witness_EvaluationTables :
    (base.banks.look 5).state = .closed ∧ (lease 3000).owner = ⟨1, 1⟩ ∧ (lease 3000).owner ≠ ⟨2, 2⟩ := by decide +kernel

/-- MP1's lease on bank 5 under a tCONT of 100, below tWARN = 200. -/
def quick : State :=
  { bank5 (.opened (lease 3000)) with profile := { base.profile with active := base.profile.active.put 33 100 } }

/-- It admits MP2's ROW_OPEN for bank 5. -/
theorem quick_admits : quick.Admits 2 3 5 (.rowOpen 40) 5 0 := by
  have h : (quick.links.look 2).session = .joined 2 := by decide +kernel
  have r : quick.rank.state = .active := rfl
  have q : quick.queues.look 2 = ⟨[], []⟩ := by decide +kernel
  have c : quick.prof.rowCount = 65536 := by decide +kernel
  refine ⟨?_, by decide +kernel, by rintro ⟨_, _, _, _, h⟩; cases h⟩
  simp [State.arrivalFailures, h, r, q, Arrival.fits, c]

/-- A lease of another session on bank 5, not contended and contended, and a REVOKING bank. -/
theorem witness_ContentionCapsTheLease :
    (quick.Admits 2 3 5 (.rowOpen 40) 5 0 ∧ (quick.banks.look 5).state = .opened (lease 3000) ∧ quick.takes 2 ⟨0, 2, 3⟩ ∧
      min 3000 (1000 + quick.prof.tCONT) < 3000 ∧ 0 < quick.prof.tWARN ∧
      min 3000 (1000 + quick.prof.tCONT) ≤ 1000 + quick.prof.tWARN) ∧
    (lease 3000).owner ≠ ⟨2, 2⟩ ∧ (lease 3000).contended = false ∧
      (min 3000 (1000 + base.prof.tCONT) < 3000 ∧ 0 < base.prof.tWARN ∧ (lease 3000).warned = false ∧
        ¬min 3000 (1000 + base.prof.tCONT) ≤ 1000 + base.prof.tWARN) ∧
      (∀ e ∈ (base.queues.look 2).entries, e.bank ≠ 5) ∧ base.takes 2 ⟨0, 2, 3⟩ := by
  refine ⟨⟨quick_admits, ?_⟩, ?_⟩ <;> and_intros <;> decide +kernel

/-- A cap to tCONT = 100 within tWARN = 200 sends CONTENDED, then the warning, both with 100 remaining (R10, R11). -/
theorem test_warned_at_the_cap :
    ((after (.rowOpen 2 ⟨0, 2, 3⟩ 5 40) quick).links.look 1).outbound =
        [⟨1, 0, .contended 5 100⟩, ⟨1, 0, .leaseWarning 5 100⟩] ∧
      ((after (.rowOpen 2 ⟨0, 2, 3⟩ 5 40) quick).banks.look 5).state = .opened ⟨7, ⟨1, 1⟩, 1100, 0, true, true⟩ := by
  decide +kernel

/-- MP2's ROW_OPEN for MP1's bank caps the lease to tCONT = 400 (R11). -/
theorem test_contention : ((after (.rowOpen 2 ⟨0, 2, 3⟩ 5 40) (bank5 (.opened (lease 3000)))).banks.look 5).state =
    .opened { lease 3000 with deadline := 1400, contended := true } := by decide +kernel

/-! ### What rank time brings about -/

theorem witness_HoldsRaisedMetAndWindowLeaves :
    ((base.setHold .command (some 1000)).holds.holds.hold .command = some 1000 ∧ 1000 ≤ base.time) ∧
      ((base.setHold .command (some 1001)).holds.holds.hold .command = some 1001 ∧ base.time < 1001) ∧
      970 + base.prof.tWS ≤ base.time := by decide +kernel

theorem test_hold_met : (after (.holdMet .command) (base.setHold .command (some 1000))).holds.holds.command = none ∧
    (after (.holdMet .command) (base.setHold .command (some 1001))).holds.holds.command = some 1001 := by decide +kernel

theorem test_window_entry_leaves :
    (after .windowEntryLeaves { base with holds := { base.holds with window := [970, 990] } }).holds.window = [990] ∧
      (after .windowEntryLeaves { base with holds := { base.holds with window := [971, 990] } }).holds.window = [971, 990] := by
  decide +kernel

theorem witness_WarningAndAgingChangeOneMark :
    0 < base.prof.tWARN ∧ (lease 1200).warned = false ∧ (lease 1200).deadline ≤ base.time + base.prof.tWARN ∧
      ({ lease 1200 with warned := true } : Lease).warned = true ∧
      ((queued .closed [{ entry .rowClose with accepted := 0 }]).queues.look 1).entries =
        [] ++ { entry .rowClose with accepted := 0 } :: [] ∧
      0 + base.prof.tAGE ≤ base.time := by decide +kernel

/-- The warning carries the lease time remaining (R10). -/
theorem test_lease_warning : ((after (.leaseWarning 5) (bank5 (.opened (lease 1200)))).links.look 1).outbound =
    [⟨1, 0, .leaseWarning 5 200⟩] := by decide +kernel

theorem test_entry_aged :
    (after (.entryAged 1 9) (queued .closed [{ entry .rowClose with accepted := 0 }])).queues.look 1 =
      ⟨[{ entry .rowClose with accepted := 0, aged := true }], [9]⟩ := by decide +kernel

theorem witness_LeaseExpiryRevokes :
    ((bank5 (.opened (lease 1000))).banks.look 5).state = .opened (lease 1000) ∧ (lease 1000).deadline ≤ base.time ∧
      (bank5 (.opened (lease 1000))).awakeMaster := by
  and_intros <;> decide +kernel

theorem test_lease_expiry : (after (.leaseExpiry 5) (bank5 (.opened (lease 1000)))).fault.list =
    [⟨.leaseExpired, some 1, some 5, .extensions 0, 1000⟩] := by decide +kernel

theorem witness_GraceEndRevokesOpenBanks :
    (draining (.grace 1000) ⟨true, false, false, false⟩).drain.phase = .grace 1000 ∧ 1000 ≤ base.time ∧
      (draining (.grace 1000) ⟨true, false, false, false⟩).awakeMaster ∧ ∃ b, (base.banks.look b).state = .closed := by
  and_intros <;> decide +kernel

theorem test_grace_end :
    (after .graceEnd { bank5 (.opened (lease 3000)) with drain := ⟨.grace 1000, ⟨true, false, false, false⟩, false⟩ }).drain.phase =
        .closing ∧
      (after .graceEnd (draining (.grace 1000) ⟨true, false, false, false⟩)).drain.phase = .service := by decide +kernel

/-- The base with an interval timer due and a balance. -/
def due (balance : Int) : State := { base with refresh := { base.refresh with timer := some 1000, balance := balance } }

theorem witness_IntervalTimerExpiry :
    (due 7).refresh.timer = some 1000 ∧ 1000 ≤ (due 7).time ∧ ((due 7).refresh.balance + 1 = base.prof.ppm) ∧
      ((base.prof.ppm : Int) ≤ (due 8).refresh.balance) ∧ (due 0).refresh.balance + 1 < base.prof.lt ∧
      (base.prof.lt : Int) ≤ (due 3).refresh.balance + 1 ∧ (due 3).drain.phase = .none ∧ 0 < (due 3).prof.tGR ∧
      (due 3).refresh.balance + 1 ≠ base.prof.ppm ∧ (due 7).awakeMaster := by
  and_intros <;> decide +kernel

/-- An urgent start cuts grace: the bank is REVOKING at once, and its owner's DRAIN has 0 remaining (R76, R78). -/
theorem test_urgent_start :
    (after .intervalTimerExpiry { due 7 with banks := (bank5 (.opened (lease 3000))).banks }).drain =
        ⟨.closing, ⟨true, false, false, false⟩, true⟩ ∧
      ((after .intervalTimerExpiry { due 7 with banks := (bank5 (.opened (lease 3000))).banks }).links.look 1).outbound =
        [⟨1, 0, .drain 0 ⟨true, false, false, false⟩⟩] := by decide +kernel

/-- PPM is 8: at 7 the refresh becomes urgent, at 8 it is missed (R91, R93). -/
theorem test_interval_at_ppm :
    (after .intervalTimerExpiry (due 7)).fault.rank = ⟨0, 0, 1, 0, 0⟩ ∧
      (after .intervalTimerExpiry (due 8)).fault.rank = ⟨0, 0, 0, 1, 0⟩ := by decide +kernel

/-- The base with a burst of MP1's tag 9 that starts at 994, and its slot ISSUED or its space AWAITING. -/
def bursting (d : Direction) (start : Nat) (started : Bool) : State :=
  let port : MoverPort :=
    { slots := MoverPort.reset.slots.put 3 (.issued 9 1 (block 0xA5))
      spaces := MoverPort.reset.spaces.put 2 (.awaiting 9 1) }
  { base with
    holds := { base.holds with bursts := [⟨d, 1, 1, 9, start, started⟩] }
    queues := base.queues.put 1 ⟨[], [9]⟩
    mover := { base.mover with ports := base.mover.ports.put 1 port } }

theorem witness_BurstStarts :
    (bursting .write 1000 false).holds.bursts = [] ++ ⟨.write, 1, 1, 9, 1000, false⟩ :: [] ∧
      ((bursting .write 1000 false).mover.ports.look 1).slots.look 3 = .issued 9 1 (block 0xA5) ∧
      (∀ j, j ≠ 3 → ((bursting .write 1000 false).mover.ports.look 1).slots.look j = .free) := by decide +kernel

theorem test_burst_starts :
    (after .writeBurstStart (bursting .write 1000 false)).mover.dataBus = .driving (block 0xA5) 1000 ∧
      (after .readBurstStart (bursting .read 1000 false)).mover.dataBus = .receiving ∧
      (after .readBurstStart (bursting .read 1001 false)).mover.dataBus = .quiet := by decide +kernel

/-- A block whose byte i is i. -/
def counted : Block := Vector.ofFn fun i => BitVec.ofNat 8 i.val

/-- Two beats in each of the 4 ck: the last ck carries beats 6 and 7, and the ck after it none (R150). -/
theorem test_beats :
    (DataBus.driving counted 1000).beats 1000 = [[0, 1, 2, 3, 4, 5, 6, 7], [8, 9, 10, 11, 12, 13, 14, 15]] ∧
      (DataBus.driving counted 1000).beats 1003 =
        [[48, 49, 50, 51, 52, 53, 54, 55], [56, 57, 58, 59, 60, 61, 62, 63]] ∧
      (DataBus.driving counted 1000).beats 1004 = [] ∧ (DataBus.driving counted 1000).beats 999 = [] := by decide +kernel

/-- A burst whose end has been reached does not keep a rank operation back, its end taken or not (R37). -/
theorem test_operation_holds_judge_the_burst :
    (bursting .write 996 true).operationHoldsMet = true ∧ (bursting .write 997 true).operationHoldsMet = false := by
  decide +kernel

theorem witness_WriteDataEnds :
    (bursting .write 996 true).holds.bursts = ⟨.write, 1, 1, 9, 996, true⟩ :: [] ∧ 996 + 4 ≤ base.time ∧
      ((bursting .write 996 true).mover.ports.look 1).slots.look 3 = .issued 9 1 (block 0xA5) ∧
      (∀ j, j ≠ 3 → ((bursting .write 996 true).mover.ports.look 1).slots.look j = .free) ∧
      (bursting .write 996 true).epoch? 1 = some 1 := by decide +kernel

theorem test_write_data_end :
    ((after .writeDataEnd (bursting .write 996 true)).links.look 1).outbound = [⟨1, 9, .written⟩] ∧
      ((after .writeDataEnd (bursting .write 997 true)).links.look 1).outbound = [] := by decide +kernel

theorem witness_ReadDataArrives :
    (bursting .read 996 true).holds.bursts = ⟨.read, 1, 1, 9, 996, true⟩ :: [] ∧ 996 + 4 ≤ base.time ∧
      ((bursting .read 996 true).mover.ports.look 1).spaces.look 2 = .awaiting 9 1 ∧
      (∀ j, j ≠ 2 → ((bursting .read 996 true).mover.ports.look 1).spaces.look j = .free) ∧
      (bursting .read 996 true).epoch? 1 = some 1 := by decide +kernel

theorem test_read_data_arrival :
    ((after (.readDataArrival (block 7)) (bursting .read 996 true)).links.look 1).outbound = [⟨1, 9, .data 2 (block 7)⟩] := by
  decide +kernel

/-! ### Issues -/

theorem witness_RowOpenIssued :
    (queued .closed [entry (.rowOpen 7)]).grantedRequest = some (false, 1, entry (.rowOpen 7)) ∧
      (queued .closed [entry (.rowOpen 7)]).awakeMaster ∧ (queued .closed [entry (.rowOpen 7)]).onlyFor 1 (entry (.rowOpen 7)) := by
  and_intros <;> decide +kernel

/-- The holds of section 2's example of an open: bank open tOM + tCP = 35, bank column tOC = 10 (R27). -/
theorem test_row_open_issued :
    ((after .rowOpenIssued (queued .closed [entry (.rowOpen 7)])).banks.look 5).state = .opened (lease 3000) ∧
      (after .rowOpenIssued (queued .closed [entry (.rowOpen 7)])).holds.holds.hold (.bankOpen 5) = some 1035 ∧
      (after .rowOpenIssued (queued .closed [entry (.rowOpen 7)])).holds.window = [1000] := by decide +kernel

theorem witness_ColReadIssued :
    (queued (.opened (lease 3000)) [entry (.colRead 7 8 true)]).grantedRequest = some (false, 1, entry (.colRead 7 8 true)) ∧
      (queued (.opened (lease 3000)) [entry (.colRead 7 8 false)]).grantedRequest = some (false, 1, entry (.colRead 7 8 false)) ∧
      (queued (.opened (lease 3000)) [entry (.colRead 7 8 true)]).awakeMaster ∧
      (queued (.opened (lease 3000)) [entry (.colRead 7 8 false)]).awakeMaster ∧
      (queued (.opened (lease 3000)) [entry (.colRead 7 8 true)]).onlyFor 1 (entry (.colRead 7 8 true)) ∧
      (queued (.opened (lease 3000)) [entry (.colRead 7 8 false)]).onlyFor 1 (entry (.colRead 7 8 false)) := by
  and_intros <;> decide +kernel

/-- K3 with RD 10, WD 7: the write hold stands at T + 9 and the burst at T + 10 (R29). -/
theorem test_col_read_issued :
    (after .colReadIssued (queued (.opened (lease 3000)) [entry (.colRead 7 8 false)])).holds.holds.write = some 1009 ∧
      (after .colReadIssued (queued (.opened (lease 3000)) [entry (.colRead 7 8 false)])).holds.bursts =
        [⟨.read, 1, 1, 9, 1010, false⟩] := by decide +kernel

theorem witness_ColWriteIssued :
    (held (queued (.opened (lease 3000)) [entry (.colWrite 7 8 true 3)])).grantedRequest =
        some (false, 1, entry (.colWrite 7 8 true 3)) ∧
      ((held (queued (.opened (lease 3000)) [entry (.colWrite 7 8 true 3)])).mover.ports.look 1).slots.look 3 =
        .held 9 1 (block 0xA5) ∧
      (held (queued (.opened (lease 3000)) [entry (.colWrite 7 8 true 3)])).awakeMaster ∧
      (held (queued (.opened (lease 3000)) [entry (.colWrite 7 8 true 3)])).onlyFor 1 (entry (.colWrite 7 8 true 3)) := by
  and_intros <;> decide +kernel

/-- WD 7: the read hold stands at T + 7 + 4 + tWRD = T + 16 (R31). -/
theorem test_col_write_issued :
    (after .colWriteIssued (held (queued (.opened (lease 3000)) [entry (.colWrite 7 8 false 3)]))).holds.holds.read =
        some 1016 ∧
      ((after .colWriteIssued (held (queued (.opened (lease 3000)) [entry (.colWrite 7 8 false 3)]))).mover.ports.look
        1).slots.look 3 = .issued 9 1 (block 0xA5) := by decide +kernel

theorem witness_RowCloseIssued :
    (queued (.opened (lease 3000)) [entry .rowClose]).grantedRequest = some (false, 1, entry .rowClose) ∧
      (queued (.opened (lease 3000)) [entry .rowClose]).awakeMaster ∧
      (queued (.opened (lease 3000)) [entry .rowClose]).onlyFor 1 (entry .rowClose) := by
  and_intros <;> decide +kernel

theorem test_row_close_issued :
    ((after .rowCloseIssued (queued (.opened (lease 3000)) [entry .rowClose])).links.look 1).outbound = [⟨1, 9, .issued⟩] ∧
      (after .rowCloseIssued (queued (.opened (lease 3000)) [entry .rowClose])).holds.holds.hold (.bankOpen 5) = some 1010 := by
  decide +kernel

theorem witness_RevocationCloseIssued :
    (bank5 (.revoking ⟨7, ⟨1, 1⟩, false, .expired⟩)).grantedRevocation = some 5 ∧
      (bank5 (.revoking ⟨7, ⟨1, 1⟩, false, .portLost⟩)).grantedRevocation = some 5 ∧
      (bank5 (.revoking ⟨7, ⟨1, 1⟩, false, .expired⟩)).awakeMaster := by
  and_intros <;> decide +kernel

theorem test_revocation_close_issued :
    (after .revocationCloseIssued (bank5 (.revoking ⟨7, ⟨1, 1⟩, false, .expired⟩))).banks.look 5 =
        ⟨.closed, some ⟨⟨1, 1⟩, 7⟩⟩ ∧
      ((after .revocationCloseIssued (bank5 (.revoking ⟨7, ⟨1, 1⟩, false, .expired⟩))).links.look 1).outbound =
        [⟨1, 0, .revoked 5 .expired⟩] := by decide +kernel

/-- A drain in SERVICE for a refresh, one refresh owed, and the count one below CPR or at 0. -/
def owing (count : Nat) : State :=
  { draining .service ⟨true, false, false, false⟩ with refresh := { base.refresh with balance := 1, count := count } }

theorem witness_RefreshIssued :
    (owing 0).grantedOperation = some (.refresh false) ∧ (owing 63).grantedOperation = some (.refresh false) ∧
      ({ base with refresh := { base.refresh with balance := -1 } } : State).grantedOperation = some (.refresh true) ∧
      ({ base with refresh := { base.refresh with balance := -1, count := 63 } } : State).drain.phase = .none ∧
      ({ base with refresh := { base.refresh with balance := -1, count := 63 } } : State).grantedOperation = some (.refresh true) ∧
      (owing 0).refresh.count + 1 < (owing 0).prof.cpr ∧ (owing 63).prof.cpr ≤ (owing 63).refresh.count + 1 := by
  decide +kernel

theorem test_refresh_issued : (after .refreshIssued (owing 0)).drain = .idle ∧
    (after .refreshIssued (owing 63)).drain = ⟨.service, ⟨false, true, false, false⟩, false⟩ := by decide +kernel

/-- A drain in SERVICE for a calibration. -/
def calibrating : State :=
  { draining .service ⟨false, true, false, false⟩ with calibration := { base.calibration with shortDue := true } }

theorem witness_CalibrationsAndModeSetsIssued :
    calibrating.grantedOperation = some .shortCalibration ∧
      (inState (.bringUp .full (.longCal false))).grantedOperation = some .longCalibration ∧
      (inState (.bringUp .full (.modeLoad .latencyNext))).grantedOperation = some (.modeSet .latency) ∧
      (inState (.bringUp .retained (.modeLoad .writeNext))).grantedOperation = some (.modeSet .write) := by decide +kernel

theorem test_short_calibration_issued : (after .shortCalibrationIssued calibrating).calibration = ⟨false, .short 1064, none⟩ := by
  decide +kernel

theorem test_long_calibration_issued :
    (after .longCalibrationIssued (inState (.bringUp .full (.longCal false)))).holds.holds.command = some 1512 := by
  decide +kernel

/-- The write word carries WD, 7 under K3 (R119, R158). -/
theorem test_mode_set_issued :
    (after .modeSetIssued (inState (.bringUp .retained (.modeLoad .writeNext)))).arbiter.commandBus = some (.modeSet .write 7) ∧
      (after .modeSetIssued (inState (.bringUp .retained (.modeLoad .writeNext)))).rank.state =
        .bringUp .retained (.modeLoad (.settling 1012)) := by decide +kernel

/-- An ACTIVE rank whose idle timer has expired. -/
def idled : State := { base with rank := { base.rank with idle := .expired } }

/-- A rank in POWERDOWN with an exit wanted. -/
def exiting (stop : Bool) : State :=
  let s := inState (.powerDown ⟨1000, false, true⟩)
  { s with rank := { s.rank with stopPending := stop } }

theorem witness_PowerDownEntryAndExitIssued :
    idled.grantedOperation = some .powerDownEntry ∧ idled.awakeMaster ∧ (exiting false).grantedOperation = some .powerDownExit ∧
      (exiting true).grantedOperation = some .powerDownExit ∧ (exiting false).awakeMaster := by
  and_intros <;> decide +kernel

theorem test_power_down_entry_issued : (after .powerDownEntryIssued idled).rank.state = .powerDown ⟨1004, false, false⟩ := by
  decide +kernel

theorem test_power_down_exit_issued : (after .powerDownExitIssued (exiting false)).holds.holds.command = some 1005 ∧
    (after .powerDownExitIssued (exiting true)).rank.state = .stopping := by decide +kernel

/-- A drain in SERVICE for SLEEP, or for a STOP. -/
def resting (stop : Bool) : State :=
  let s := draining .service ⟨false, false, !stop, stop⟩
  { s with rank := { s.rank with state := if stop then .stopping else .active, sleepBegun := !stop } }

theorem witness_SelfRefreshEntryIssued :
    (resting false).grantedOperation = some .selfRefreshEntry ∧ (resting false).drain.purposes = ⟨false, false, true, false⟩ ∧
      (resting true).grantedOperation = some .selfRefreshEntry ∧ (resting true).drain.purposes.stop = true := by decide +kernel

theorem test_self_refresh_entry_issued :
    (after .selfRefreshEntryIssued (resting false)).rank.state = .sleep false ∧
      (after .selfRefreshEntryIssued (resting true)).rank.retained = true := by decide +kernel

theorem witness_SelfRefreshExitIssued :
    (inState (.sleep true)).grantedOperation = some .selfRefreshExit ∧ (inState (.sleep true)).calibration.shortDue = false ∧
      (inState (.sleep true)).drain.phase = .none ∧
      (inState (.bringUp .retained (.exitWait none))).grantedOperation = some .selfRefreshExit := by decide +kernel

/-- tSRX is tRFB + 8 = 198 under the defaults. -/
theorem test_self_refresh_exit_issued :
    (after .selfRefreshExitIssued (inState (.sleep true))).rank.state = .waking 1198 ∧
      (after .selfRefreshExitIssued (inState (.sleep true))).calibration.lock = some 1640 := by decide +kernel

/-! ### Phases, timers and the wake -/

/-- The base with a calibration busy. -/
def busy (b : CalBusy) (r : RankState) : State :=
  { inState r with calibration := { base.calibration with busy := b, lock := some 1000 } }

theorem witness_PhasesEnd :
    (inState (.bringUp .full (.resetHold 1000))).rank.state = .bringUp .full (.resetHold 1000) ∧ 1000 ≤ base.time ∧
      (busy (.long 1000) .active).calibration.busy = .long 1000 ∧ (busy (.short 1000) .active).calibration.lock = some 1000 ∧
      (inState (.bringUp .retained (.modeLoad (.settling 1000)))).awakeMaster := by
  and_intros <;> decide +kernel

theorem test_bring_up_phases :
    (after .resetHoldEnd (inState (.bringUp .full (.resetHold 1000)))).rank.state = .bringUp .full (.clockSettle 1360) ∧
      (after .clockSettleEnd (inState (.bringUp .full (.clockSettle 1000)))).rank.state =
        .bringUp .full (.modeLoad .latencyNext) ∧
      (after .clockSettleEnd (inState (.bringUp .retained (.clockSettle 1000)))).rank.state =
        .bringUp .retained (.exitWait none) ∧
      (after .exitWaitEnd (inState (.bringUp .retained (.exitWait (some 1000))))).rank.state =
        .bringUp .retained (.modeLoad .latencyNext) := by decide +kernel

theorem test_mode_load_and_calibration_end :
    (after .modeLoadEnd (inState (.bringUp .retained (.modeLoad (.settling 1000))))).rank.state = .active ∧
      (after .longCalBusyEnd (busy (.long 1000) (.bringUp .full (.longCal true)))).refresh.timer = some 6500 ∧
      (after .shortCalBusyEnd (busy (.short 1000) .active)).calibration.busy = .none ∧
      (after .lockEnd (busy .none .active)).calibration.lock = none := by decide +kernel

/-- The base with an idle timer that has run out, and a rank in WAKING. -/
theorem witness_IdleResidencyAndWakeEnd :
    ({ base with rank := { base.rank with idle := .running 1000 } } : State).rank.idle = .running 1000 ∧ 1000 ≤ base.time ∧
      (inState (.powerDown ⟨1000, false, false⟩)).rank.state = .powerDown ⟨1000, false, false⟩ ∧
      (inState (.waking 1000)).rank.state = .waking 1000 ∧ (inState (.waking 1000)).awakeMaster := by
  and_intros <;> decide +kernel

theorem test_timers_end :
    (after .idleTimerExpiry { base with rank := { base.rank with idle := .running 1000 } }).rank.idle = .expired ∧
      (after .residencyEnd (inState (.powerDown ⟨1000, false, false⟩))).rank.state = .powerDown ⟨1000, true, false⟩ ∧
      (after .wakeEnd (inState (.waking 1000))).rank.state = .active := by decide +kernel

/-! ### The management port -/

/-- A list with two records, and a full one that has dropped three. -/
def faulty (n : Nat) (dropped : Nat) : State :=
  { base with fault := FaultUnit.judge { base.fault with
      list := List.replicate n ⟨.frameError, some 1, none, .crc, 0⟩, overflow := decide (0 < dropped), overflowCount := dropped } }

theorem witness_FaultPopAndAlertMask : base.fault.list = [] ∧
    (faulty 2 0).fault.list = ⟨.frameError, some 1, none, .crc, 0⟩ :: [⟨.frameError, some 1, none, .crc, 0⟩] := by decide +kernel

theorem test_fault_pop : (after .faultPop (faulty 16 3)).fault.list.getLast? = some ⟨.listOverflow, none, none, .dropped 3, 1000⟩ ∧
    (after .faultPop (faulty 16 3)).fault.list.length = 16 ∧ (after .faultPop (faulty 1 0)).fault.alert = false := by decide +kernel

theorem test_alert_mask : (after (.alertMaskWrite 0x017F) (faulty 1 0)).fault.alert = false ∧
    (after (.alertMaskWrite 0xFE80) (faulty 1 0)).fault.mask = 0x080 := by decide +kernel

theorem witness_ManagementWritesAndCapture :
    (Instr.mgmtWriteBad 0x0012 0).wellFormed = true ∧ (Instr.registerCapture 0x0030).wellFormed = true ∧ base.capture = none ∧
      (0x0030, 6, 1000) ∈ base.window ∧ ∀ x ∈ base.window, 0x0003 < x.1 ∨ x.1 + x.2.1 ≤ 0x0003 := by decide +kernel

/-- A staged byte is stored as written, the others of its field kept (R156, R175). -/
theorem test_staged_write : Profile.field (after (.stagedProfileWrite 28 2 0x7F) State.reset).profile.staged 28 = 0x7F2E98 := by
  decide +kernel

theorem test_mgmt_error : (after (.mgmtWriteBad 0x0012 0) base).fault.mgmtError = true ∧
    (after (.mgmtErrorClear 0xFE) (after (.mgmtWriteBad 0x0012 0) base)).fault.mgmtError = true ∧
    (after (.mgmtErrorClear 0x01) (after (.mgmtWriteBad 0x0012 0) base)).fault.mgmtError = false := by decide +kernel

/-- Rank time read as a whole: its low byte captures it, and a later ck does not change the higher bytes read (R176). -/
theorem test_capture :
    State.readByte { after (.registerCapture 0x0030) { base with time := 0x1FF } with time := 0x200 } 0x0031 = 0x01 ∧
      State.readByte { base with time := 0x200 } 0x0031 = 0x02 := by decide +kernel

/-- A write transfer: address 0020H high byte first, then the mask's two bytes at consecutive addresses, the second written to the
mask as the first has left it (R175). -/
theorem test_write_transfer :
    commandsOfWriteTransfer 0x1FF [0x00, 0x20, 0x0A, 0x00] = [.alertMaskWrite 0x010A, .alertMaskWrite 0x000A] ∧
      commandsOfWriteTransfer 0x1FF [0x01, 0x03, 0x11, 0x22] = [.stagedProfileWrite 0 3 0x11, .stagedProfileWrite 1 0 0x22] ∧
      commandsOfWriteTransfer 0x1FF [0x00, 0x11] = [] ∧ commandsOfWriteTransfer 0x1FF [0x00] = [] := by decide +kernel

/-- A read transfer of three bytes from 00A0H, and the identification it returns from 0000H (R175, Table 13-6). -/
theorem test_read_transfer :
    commandsOfReadTransfer 0x00 0xA0 3 = [.registerCapture 0x00A0, .registerCapture 0x00A1, .registerCapture 0x00A2] ∧
      (addressesFrom 0 3).map base.returnedByte = [0x72, 0x04, 0x01] := by decide +kernel

/-! ### The machine -/

theorem witness_StepTakesFrontCommand : ({ base with pending := [.commit] } : State).pending = .commit :: [] := rfl

theorem witness_IdleStepTakesDueHappeningOrOneCk :
    base.pending = [] ∧ (due 0).dueHappening = some .intervalTimerExpiry ∧ State.reset.dueHappening = none := by decide +kernel

theorem witness_PartsChangedOnlyByTheirCommands : exec .faultPop base = .next (after .faultPop base) := rfl

theorem witness_BankStateTransitions :
    exec .rowOpenIssued (queued .closed [entry (.rowOpen 7)]) = .next (after .rowOpenIssued (queued .closed [entry (.rowOpen 7)])) ∧
      ((queued .closed [entry (.rowOpen 7)]).banks.look 5).state = .closed ∧
      ((after .rowCloseIssued (queued (.opened (lease 3000)) [entry .rowClose])).banks.look 5).state = .closed ∧
      ((after .revocationCloseIssued (bank5 (.revoking ⟨7, ⟨1, 1⟩, false, .expired⟩))).banks.look 5).state = .closed ∧
      ((after (.leaseExpiry 5) (bank5 (.opened (lease 1000)))).banks.look 5).state = .revoking ⟨7, ⟨1, 1⟩, false, .expired⟩ ∧
      ((after (.linkDown 1) (bank5 (.opened (lease 3000)))).banks.look 5).state = .revoking ⟨7, ⟨1, 1⟩, false, .portLost⟩ ∧
      ((after .stop (bank5 (.opened (lease 3000)))).banks.look 5).state = .revoking ⟨7, ⟨1, 1⟩, false, .stop⟩ := by
  and_intros <;> first | decide +kernel | rfl

theorem witness_OneGrantInAnyCk :
    (queued .closed [entry (.rowOpen 7)]).grant = some (.request false 1 (entry (.rowOpen 7))) ∧
      (after .rowOpenIssued (queued .closed [entry (.rowOpen 7)])).grant = none := by decide +kernel

theorem witness_GrantFollowsTheClasses :
    idled.operationOffer = some .powerDownEntry ∧ idled.operationReady .powerDownEntry = true ∧
      base.operationOffer = none ∧ (bank5 (.revoking ⟨7, ⟨1, 1⟩, false, .expired⟩)).revocationReady 5 = true ∧
      (∀ b, base.revocationReady b = false) ∧ (queued .closed [entry (.rowOpen 7)]).isReady 1 (entry (.rowOpen 7)) = true := by
  decide +kernel

/-- MP1 with row-opens of two banks and MP2 with one of a third, the pointer at a port. -/
def rivals (aged : Bool) (pointer : Port) (accepted : Nat) : State :=
  let e (tag : Byte) (b : Bank) (at' : Nat) : Entry := ⟨tag, b, .rowOpen 7, at', aged, none⟩
  { base with
    arbiter := { base.arbiter with pointer := pointer }
    queues := (base.queues.put 1 ⟨[e 9 5 900, e 10 6 900], [9, 10]⟩).put 2 ⟨[e 11 9 accepted], [11]⟩ }

/-- The port and tag the arbiter grants. -/
def winner (s : State) : Option (Bool × Port × Byte) := s.grantedRequest.map fun g => (g.1, g.2.1, g.2.2.tag)

/-- Both ties of R66, by the pointer and by the queue, the age before them, and the round of R67. -/
theorem test_grant_order :
    winner (rivals true 1 900) = some (true, 1, 9) ∧ winner (rivals true 2 900) = some (true, 2, 11) ∧
      winner (rivals true 1 899) = some (true, 2, 11) ∧ winner (rivals false 0 899) = some (false, 1, 9) ∧
      winner (rivals false 2 901) = some (false, 2, 11) := by decide +kernel

theorem witness_NothingIssuedAgainstTheRank :
    (draining .closing ⟨true, false, false, false⟩).drain.phase ≠ .none ∧ (busy .none .active).calibration.lock = some 1000 ∧
      State.reset.rank.state = .offline ∧
      (queued .closed [entry (.rowOpen 7)]).grantedRequest = some (false, 1, entry (.rowOpen 7)) ∧
      (queued (.opened (lease 3000)) [entry .rowClose]).grantedRequest = some (false, 1, entry .rowClose) ∧
      (owing 0).grantedOperation = some (.refresh false) ∧
      { bank5 (.revoking ⟨7, ⟨1, 1⟩, false, .stop⟩) with rank := RankController.reset }.grant = some (.revocation 5) := by
  decide +kernel

theorem witness_RequestFramesReadBack :
    frameOf (.leave 2 ⟨4, 1, 3⟩) = some (2, withCheck [4, 1, 0x02, 3]) := by decide +kernel

/-- The base after its own assessment. -/
theorem witness_AssessmentKeptByCommands : base.settle.Assessed := by
  refine ⟨by decide +kernel, fun p b e h => ?_⟩
  have : ∀ p b, base.settle.front p b = none := by decide +kernel
  rw [this p b] at h; cases h

/-- The base meets the invariants of the Fault Unit, the Profile Store and the Refresh Unit. -/
theorem witness_FaultProfileAndRefreshInvariantsKept :
    base.fault.list.length ≤ 16 ∧ base.profile.active = defaultProfile ∧ base.profile.active.firstFailure = none ∧
      (-(base.prof.pim : Int) ≤ base.refresh.balance ∧ base.refresh.balance ≤ base.prof.ppm) ∧
      base.refresh.count < base.prof.cpr ∧ (∀ p, base.refresh.table.look p = none) ∧
      step base = .next (match step base with | .next t => t | _ => base) := by
  and_intros <;> first | decide +kernel | rfl

/-- The base meets the invariants of the rank state and of the drain. -/
theorem witness_RankAndDrainInvariantsKept : base.RankInv ∧ base.DrainInv := by
  constructor <;> constructor <;> and_intros <;> decide +kernel

/-- The base meets the invariants of the sessions and of the queues. -/
theorem witness_SessionAndQueueInvariantsKept : base.SessionInv ∧ base.QueueInv := by
  constructor <;> intro p <;> revert p <;> decide +kernel

end Sys2Proof.Tests
end

section
/-! PROOFS. What no shared operation changes, and with it what every command keeps: O2 and O4. -/

namespace Sys2Proof.Machine

/-! ### The command status (R132)

The operations of Laws/Frames.lean that change the rank controller leave its command status as it is. -/

@[simp] theorem State.setRank_status (s : State) (r : RankState) : (s.setRank r).rank.status = s.rank.status := rfl

@[simp] theorem State.setVote_status (s : State) (p : Port) (v : Option Vote) : (s.setVote p v).rank.status = s.rank.status := rfl

@[simp] theorem State.votesAwake_status (s : State) : s.votesAwake.rank.status = s.rank.status := rfl

@[simp] theorem State.setBegun_status (s : State) (b : Bool) : (s.setBegun b).rank.status = s.rank.status := rfl

@[simp] theorem State.judgeIdle_status (s : State) : s.judgeIdle.rank.status = s.rank.status := by
  simp only [State.judgeIdle]
  repeat' split
  all_goals rfl

@[simp] theorem State.settle_status (s : State) : s.settle.rank.status = s.rank.status := by
  simp [State.settle]

@[simp] theorem State.wantExit_status (s : State) : s.wantExit.rank.status = s.rank.status := by
  simp only [State.wantExit]
  split <;> rfl

@[simp] theorem State.wantWake_status (s : State) : s.wantWake.rank.status = s.rank.status := by
  simp only [State.wantWake]
  split <;> rfl

@[simp] theorem State.judgeHotExit_status (s : State) : s.judgeHotExit.rank.status = s.rank.status := by
  simp only [State.judgeHotExit]
  split <;> simp

@[simp] theorem State.become_status (s : State) (r : RankState) : (s.become r).rank.status = s.rank.status := by
  simp [State.become]

@[simp] theorem State.carryOutStop_status (s : State) : s.carryOutStop.rank.status = s.rank.status := by
  simp [State.carryOutStop]

@[simp] theorem State.enterOffline_status (s : State) (retained : Bool) :
    (s.enterOffline retained).rank.status = s.rank.status := by
  simp [State.enterOffline]

/-! ### What no shared operation changes -/

/-- The parts of the state that only commands of their own change: rank time (R1), the epoch counter (R133), the profile copies
(R156), the command status (R132), the capture (R176), and the model's own counter of free values and queue of commands. -/
@[simp, reducible] def State.Keeps (s t : State) : Prop :=
  t.time = s.time ∧ t.epochCounter = s.epochCounter ∧ t.profile = s.profile ∧ t.rank.status = s.rank.status ∧
    t.capture = s.capture ∧ t.freeIndex = s.freeIndex ∧ t.pending = s.pending

theorem State.keeps_ite {s t u : State} {P : Prop} [Decidable P] (ht : s.Keeps t) (hu : s.Keeps u) :
    s.Keeps (if P then t else u) := by
  split
  · exact ht
  · exact hu

/-- A judgement of unanimity, whatever else the happening has still to do in between (R76, R128). -/
@[simp] theorem State.judgeUnanimity_keeps (s : State) (others : State → State) (h : ∀ u : State, u.Keeps (others u)) :
    s.Keeps (s.judgeUnanimity others) := by
  obtain e | ⟨-, -, e⟩ | ⟨-, -, -, e⟩ | ⟨-, -, -, e⟩ := s.judgeUnanimity_cases others <;> rw [e]
  · exact h s
  all_goals simp [h]

@[simp] theorem State.becomeActive_status (s : State) : s.becomeActive.rank.status = s.rank.status := by
  simp [State.becomeActive]

@[simp] theorem State.reportThermal_status (s : State) : s.reportThermal.rank.status = s.rank.status := by
  simp only [State.reportThermal]
  split <;> simp

@[simp] theorem State.accept_status (s : State) (p : Port) (tag : Byte) (b : Bank) (a : Arrival) (slot : Fin 8) :
    (s.accept p tag b a slot).rank.status = s.rank.status := by
  simp only [State.accept, State.reportArrival]
  split <;> simp

@[simp] theorem State.arrive_status (s : State) (p : Port) (tag bank : Byte) (a : Arrival) :
    (s.arrive p tag bank a).rank.status = s.rank.status := by
  simp only [State.arrive]
  split <;> simp

@[simp] theorem State.afterRequest_status (s : State) (b : Bank) (changed : Bool) :
    (s.afterRequest b changed).rank.status = s.rank.status := by
  simp only [State.afterRequest]
  split <;> simp

@[simp] theorem State.judgeRemoval_status (s old : State) : (s.judgeRemoval old).rank.status = s.rank.status := by
  simp only [State.judgeRemoval]
  split <;> simp

/-! ### Thermal evaluation and the sessions (R102, R139, R143) -/

@[simp] theorem State.evalThermal_keeps (s : State) (c : ThermalCause) (reply : State → State)
    (h : ∀ u : State, u.Keeps (reply u)) : s.Keeps (s.evalThermal c reply) := by
  simp only [State.evalThermal]
  split
  · exact h s
  · simp [h]

@[simp] theorem State.takeThot_keeps (s : State) (level : Bool) : s.Keeps (s.takeThot level) := by
  simp [State.takeThot]

/-- The banks of a session revoked one after the other (R85, R86). -/
@[simp] theorem State.revokeAllOwned_keeps (s : State) (o : Owner) (r : RevokeReason) (l : List Bank) :
    s.Keeps (l.foldl (State.revokeOwned o r) s) := by
  induction l generalizing s with
  | nil => simp
  | cons b l ih => simp [ih]

@[simp] theorem State.endSession_keeps (s : State) (p : Port) (e : Byte) (c : SessionEnd) :
    s.Keeps (s.endSession p e c) := by
  simp only [State.endSession]
  split <;> simp

/-- A session opened takes the next epoch (R139). -/
@[simp] theorem State.openSession_keeps (s : State) (p : Port) (tag : Byte) :
    { s with epochCounter := nextEpoch s.epochCounter }.Keeps (s.openSession p tag) := by
  simp [State.openSession]

/-- What becomes of a sound frame (R136, R137): nothing in DOWN, discarded, refused, or passed on. -/
theorem State.receive_cases (s : State) (p : Port) (h : Header) (isJoin : Bool) (route : State → State) :
    s.receive p h isJoin route = s ∨ s.receive p h isJoin route = s.outOfSequence p ∨
      (∃ r, s.receive p h isJoin route = (s.inSequence p).refuse p h.tag r) ∨
      s.receive p h isJoin route = route (s.inSequence p) := by
  simp only [State.receive]
  split
  · exact .inl rfl
  · split
    · exact .inr (.inl rfl)
    · split
      · exact .inr (.inr (.inl ⟨_, rfl⟩))
      · exact .inr (.inr (.inr rfl))

theorem State.receive_keeps (s : State) (p : Port) (h : Header) (isJoin : Bool) (route : State → State)
    (hr : ∀ u : State, u.Keeps (route u)) : s.Keeps (s.receive p h isJoin route) := by
  obtain e | e | ⟨r, e⟩ | e := s.receive_cases p h isJoin route <;> rw [e] <;> simp [hr]

/-! ### The requests a master sends -/

theorem State.takeLeave_keeps (s : State) (p : Port) (tag : Byte) : s.Keeps (s.takeLeave p tag) := by
  simp only [State.takeLeave]
  split <;> simp

theorem State.takeExtend_keeps (s : State) (p : Port) (tag bank : Byte) : s.Keeps (s.takeExtend p tag bank) := by
  simp only [State.takeExtend]
  split <;> simp

theorem State.takeCancel_keeps (s : State) (p : Port) (tag target : Byte) : s.Keeps (s.takeCancel p tag target) := by
  simp only [State.takeCancel]
  split
  · simp
  · split <;> simp

theorem State.takeSleepVote_keeps (s : State) (p : Port) (tag : Byte) : s.Keeps (s.takeSleepVote p tag) := by
  simp only [State.takeSleepVote]
  split <;> simp

theorem State.takeWake_keeps (s : State) (p : Port) (tag : Byte) : s.Keeps (s.takeWake p tag) := by
  simp only [State.takeWake]
  split <;> simp

theorem State.takeReport_keeps (s : State) (p : Port) (tag : Byte) (t : BitVec 16) : s.Keeps (s.takeReport p tag t) := by
  simp [State.takeReport]

theorem State.queued_keeps (s : State) (p : Port) (h : Header) (bank : Byte) (a : Arrival) :
    s.Keeps (s.queued p h bank a) :=
  s.receive_keeps p h false _ fun u => by simp

/-- A JOIN passed on can move the epoch counter and nothing else that is kept (R139, R140). -/
theorem State.takeJoin_keeps (s : State) (p : Port) (tag revision : Byte) :
    { s with epochCounter := (s.takeJoin p tag revision).epochCounter }.Keeps (s.takeJoin p tag revision) := by
  simp only [State.takeJoin]
  split
  · simp
  · split <;> simp

/-! ### The issues (R68, R69) -/

theorem State.issueRowOpen_keeps (s : State) (aged : Bool) (p : Port) (e : Entry) (row : Row) :
    s.Keeps (s.issueRowOpen aged p e row) := by
  simp [State.issueRowOpen]

theorem State.issueColRead_keeps (s : State) (aged : Bool) (p : Port) (e : Entry) (column : Column) (autoClose : Bool) :
    s.Keeps (s.issueColRead aged p e column autoClose) := by
  simp [State.issueColRead]

theorem State.issueColWrite_keeps (s : State) (aged : Bool) (p : Port) (e : Entry) (column : Column) (autoClose : Bool)
    (slot : Fin 8) : s.Keeps (s.issueColWrite aged p e column autoClose slot) := by
  simp [State.issueColWrite]

theorem State.issueRowClose_keeps (s : State) (aged : Bool) (p : Port) (e : Entry) :
    s.Keeps (s.issueRowClose aged p e) := by
  simp [State.issueRowClose]

theorem State.issueRevocation_keeps (s : State) (b : Bank) (r : Revocation) : s.Keeps (s.issueRevocation b r) := by
  simp only [State.issueRevocation]
  split <;> simp

@[simp] theorem State.countRefresh_keeps (s : State) : s.Keeps s.countRefresh := by
  simp only [State.countRefresh]
  split <;> simp

@[simp] theorem State.refreshDone_keeps (s : State) (pullIn : Bool) : s.Keeps (s.refreshDone pullIn) := by
  unfold State.refreshDone
  refine State.keeps_ite ?_ ?_ <;> simp

theorem State.issueRefresh_keeps (s : State) (pullIn : Bool) : s.Keeps (s.issueRefresh pullIn) := by
  simp [State.issueRefresh]

theorem State.issueShortCalibration_keeps (s : State) : s.Keeps s.issueShortCalibration := by
  simp [State.issueShortCalibration]

theorem State.issueLongCalibration_keeps (s : State) : s.Keeps s.issueLongCalibration := by
  simp only [State.issueLongCalibration]
  split <;> simp

theorem State.issueModeSet_keeps (s : State) (w : ModeWord) : s.Keeps (s.issueModeSet w) := by
  simp only [State.issueModeSet]
  split <;> simp

theorem State.issuePowerDownEntry_keeps (s : State) : s.Keeps s.issuePowerDownEntry := by
  simp [State.issuePowerDownEntry]

theorem State.issuePowerDownExit_keeps (s : State) : s.Keeps s.issuePowerDownExit := by
  simp only [State.issuePowerDownExit]
  split <;> simp

theorem State.issueSelfRefreshEntry_keeps (s : State) : s.Keeps s.issueSelfRefreshEntry := by
  simp only [State.issueSelfRefreshEntry]
  repeat' split
  all_goals simp

@[simp] theorem State.exitRank_keeps (s : State) : s.Keeps s.exitRank := by
  simp only [State.exitRank]
  split <;> simp

theorem State.issueSelfRefreshExit_keeps (s : State) : s.Keeps s.issueSelfRefreshExit := by
  simp [State.issueSelfRefreshExit, State.exitReports]

/-! ### What rank time brings about -/

theorem State.expireLease_keeps (s : State) (b : Bank) (l : Lease) : s.Keeps (s.expireLease b l) := by
  simp [State.expireLease]

@[simp] theorem State.owe_keeps (s : State) : s.Keeps s.owe := by
  simp only [State.owe]
  split <;> simp

@[simp] theorem State.askRefresh_keeps (s : State) (marked : Bool) : s.Keeps (s.askRefresh marked) := by
  simp only [State.askRefresh]
  repeat' split
  all_goals simp

theorem State.expireInterval_keeps (s : State) : s.Keeps s.expireInterval := by
  simp [State.expireInterval]

@[simp] theorem State.finishWrite_keeps (s : State) (b : Burst) : s.Keeps (s.finishWrite b) := by
  simp only [State.finishWrite]
  repeat' split
  all_goals simp

@[simp] theorem State.finishRead_keeps (s : State) (b : Burst) (data : Block) : s.Keeps (s.finishRead b data) := by
  simp only [State.finishRead]
  repeat' split
  all_goals simp

theorem State.endWake_keeps (s : State) : s.Keeps s.endWake := by
  simp only [State.endWake]
  split <;> simp

@[simp] theorem State.handHead_keeps (s : State) (p : Port) (f : OutFrame) : s.Keeps (s.handHead p f) := by
  simp only [State.handHead]
  split <;> simp

theorem State.askLeave_keeps (s : State) (p : Port) (e tag : Byte) : s.Keeps (s.askLeave p e tag) := by
  simp [State.askLeave]

/-! ### Every command -/

/-- A command's answer that keeps what no shared operation changes. -/
def State.Answers (s : State) (o : Host.Outcome State Fault Refusal) : Prop := ∃ t, o = .next t ∧ s.Keeps t

theorem State.answers_next {s t : State} (h : s.Keeps t) : s.Answers (.next t) := ⟨t, rfl, h⟩

theorem State.answers_same (s : State) : s.Answers (.next s) := State.answers_next (by simp)

/-- A happening that takes place only when it is due (assumption 2). -/
theorem State.answers_ite {s t : State} {P : Prop} [Decidable P] (h : s.Keeps t) :
    s.Answers (if P then .next t else .next s) := by
  split
  · exact State.answers_next h
  · exact s.answers_same

theorem execLinkDown_answers (p : Port) (s : State) : s.Answers (execLinkDown p s) := by
  unfold execLinkDown
  split
  · exact s.answers_same
  all_goals exact State.answers_next (by simp)

theorem execBadKindFrame_answers (p : Port) (h : Header) (kind : Byte) (length : Nat) (s : State) :
    s.Answers (execBadKindFrame p h kind length s) := by
  unfold execBadKindFrame
  split
  · exact s.answers_same
  · exact State.answers_next (s.receive_keeps _ _ _ _ fun u => by simp)

theorem execHandedToLink_answers (p : Port) (s : State) : s.Answers (execHandedToLink p s) := by
  unfold execHandedToLink
  split
  · exact State.answers_next (by simp)
  all_goals exact s.answers_same

theorem execReadyToLeave_answers (p : Port) (s : State) : s.Answers (execReadyToLeave p s) := by
  unfold execReadyToLeave
  split
  · exact State.answers_next (s.askLeave_keeps _ _ _)
  · exact s.answers_same

theorem execLeaveComplete_answers (p : Port) (s : State) : s.Answers (execLeaveComplete p s) := by
  unfold execLeaveComplete
  split
  · exact State.answers_next (by simp)
  · exact s.answers_same

theorem execLeaseWarning_answers (b : Bank) (s : State) : s.Answers (execLeaseWarning b s) := by
  unfold execLeaseWarning
  split
  · exact State.answers_ite (by simp)
  all_goals exact s.answers_same

theorem execLeaseExpiry_answers (b : Bank) (s : State) : s.Answers (execLeaseExpiry b s) := by
  unfold execLeaseExpiry
  split
  · exact State.answers_ite (s.expireLease_keeps _ _)
  all_goals exact s.answers_same

theorem execEntryAged_answers (p : Port) (tag : Byte) (s : State) : s.Answers (execEntryAged p tag s) := by
  unfold execEntryAged
  split
  · exact s.answers_same
  · exact State.answers_ite (by simp)

theorem execWriteBurstStart_answers (s : State) : s.Answers (execWriteBurstStart s) := by
  unfold execWriteBurstStart
  split
  · exact s.answers_same
  · exact State.answers_ite (by simp)

theorem execReadBurstStart_answers (s : State) : s.Answers (execReadBurstStart s) := by
  unfold execReadBurstStart
  split
  · exact s.answers_same
  · exact State.answers_ite (by simp)

theorem execWriteDataEnd_answers (s : State) : s.Answers (execWriteDataEnd s) := by
  unfold execWriteDataEnd
  split
  · exact s.answers_same
  · exact State.answers_ite (by simp)

theorem execReadDataArrival_answers (data : Block) (s : State) : s.Answers (execReadDataArrival data s) := by
  unfold execReadDataArrival
  split
  · exact s.answers_same
  · exact State.answers_ite (by simp)

theorem execRowOpenIssued_answers (s : State) : s.Answers (execRowOpenIssued s) := by
  unfold execRowOpenIssued
  split
  · exact s.answers_same
  · split
    · exact State.answers_next (s.issueRowOpen_keeps _ _ _ _)
    all_goals exact s.answers_same

theorem execColReadIssued_answers (s : State) : s.Answers (execColReadIssued s) := by
  unfold execColReadIssued
  split
  · exact s.answers_same
  · split
    · exact State.answers_next (s.issueColRead_keeps _ _ _ _ _)
    all_goals exact s.answers_same

theorem execColWriteIssued_answers (s : State) : s.Answers (execColWriteIssued s) := by
  unfold execColWriteIssued
  split
  · exact s.answers_same
  · split
    · exact State.answers_next (s.issueColWrite_keeps _ _ _ _ _ _)
    all_goals exact s.answers_same

theorem execRowCloseIssued_answers (s : State) : s.Answers (execRowCloseIssued s) := by
  unfold execRowCloseIssued
  split
  · exact s.answers_same
  · split
    · exact State.answers_next (s.issueRowClose_keeps _ _ _)
    all_goals exact s.answers_same

theorem execRevocationCloseIssued_answers (s : State) : s.Answers (execRevocationCloseIssued s) := by
  unfold execRevocationCloseIssued
  split
  · exact s.answers_same
  · split
    · exact State.answers_next (s.issueRevocation_keeps _ _)
    all_goals exact s.answers_same

theorem execRefreshIssued_answers (s : State) : s.Answers (execRefreshIssued s) := by
  unfold execRefreshIssued
  split
  · exact State.answers_next (s.issueRefresh_keeps _)
  all_goals exact s.answers_same

theorem execModeSetIssued_answers (s : State) : s.Answers (execModeSetIssued s) := by
  unfold execModeSetIssued
  split
  · exact State.answers_next (s.issueModeSet_keeps _)
  all_goals exact s.answers_same

theorem execLongCalBusyEnd_answers (s : State) : s.Answers (execLongCalBusyEnd s) := by
  unfold execLongCalBusyEnd
  exact State.answers_ite (by split <;> simp)

theorem execResetHoldEnd_answers (s : State) : s.Answers (execResetHoldEnd s) := by
  unfold execResetHoldEnd
  split
  · exact State.answers_ite (by simp)
  · exact s.answers_same

theorem execClockSettleEnd_answers (s : State) : s.Answers (execClockSettleEnd s) := by
  unfold execClockSettleEnd
  split
  · exact State.answers_ite (by simp)
  · exact s.answers_same

theorem execExitWaitEnd_answers (s : State) : s.Answers (execExitWaitEnd s) := by
  unfold execExitWaitEnd
  split
  · exact State.answers_ite (by simp)
  · exact s.answers_same

theorem execResidencyEnd_answers (s : State) : s.Answers (execResidencyEnd s) := by
  unfold execResidencyEnd
  split
  · exact State.answers_ite (by simp)
  · exact s.answers_same

theorem execFaultPop_answers (s : State) : s.Answers (execFaultPop s) := by
  unfold execFaultPop
  split <;> exact State.answers_next (by simp)

/-! ### The commands that change a kept part -/

/-- Power-on reset resets them all but the counter and the queue, which are the model's own (R115, assumption 3). -/
theorem execPowerOnReset_answers (lanes : Table Bool 4) (thot : Bool) (s : State) :
    ∃ t, execPowerOnReset lanes thot s = .next t ∧ { t with freeIndex := s.freeIndex, pending := s.pending }.Keeps t := by
  refine ⟨_, rfl, ?_⟩
  cases thot <;> simp [State.powerOn]

/-- A JOIN can move the epoch counter (R139). -/
theorem execJoin_answers (p : Port) (h : Header) (revision : Byte) (s : State) :
    ∃ t, execJoin p h revision s = .next t ∧ { s with epochCounter := t.epochCounter }.Keeps t := by
  refine ⟨_, rfl, ?_⟩
  obtain e | e | ⟨r, e⟩ | e := s.receive_cases p h true fun u => u.takeJoin p h.tag revision <;> rw [e]
  case inr.inr.inr => simpa using (s.inSequence p).takeJoin_keeps p h.tag revision
  all_goals simp

/-- START sets the command status (R118). -/
theorem execStart_answers (s : State) : ∃ t, execStart s = .next t ∧ { s with rank := t.rank }.Keeps t := by
  unfold execStart
  repeat' split
  all_goals exact ⟨_, rfl, by simp [State.takeStart]⟩

/-- STOP sets the command status (R122). -/
theorem execStop_answers (s : State) : ∃ t, execStop s = .next t ∧ { s with rank := t.rank }.Keeps t := by
  unfold execStop
  repeat' split
  all_goals exact ⟨_, rfl, by simp [State.stopInPowerDown, State.stopInWaking]⟩

/-- COMMIT changes the profile store, but not its staged copy (R162). -/
theorem execCommit_answers (s : State) : ∃ t, execCommit s = .next t ∧
    { s with profile := { t.profile with staged := s.profile.staged } }.Keeps t := by
  unfold execCommit
  repeat' split
  all_goals exact ⟨_, rfl, by simp [State.setCommit, State.applyCommit]⟩

/-- A write of the staged copy changes that copy (R156). -/
theorem execStagedProfileWrite_answers (field : Fin 38) (byte : Fin 4) (value : Byte) (s : State) :
    ∃ t, execStagedProfileWrite field byte value s = .next t ∧
      { s with profile := { s.profile with staged := t.profile.staged } }.Keeps t :=
  ⟨_, rfl, by simp⟩

/-- Soft reset discards the capture and keeps the rest (R133, R132, R157, R170). -/
theorem execSoftReset_answers (s : State) : ∃ t, execSoftReset s = .next t ∧ { s with capture := t.capture }.Keeps t := by
  refine ⟨_, rfl, ?_⟩
  split <;> simp [State.cleared]

/-- A capturing read changes the capture (R176). -/
theorem execRegisterCapture_answers (address : BitVec 16) (s : State) :
    ∃ t, execRegisterCapture address s = .next t ∧ { s with capture := t.capture }.Keeps t := by
  refine ⟨_, rfl, ?_⟩
  simp only [State.captured]
  split <;> simp

end Sys2Proof.Machine

namespace Sys2Proof

open Machine

/-! ### All commands in one statement -/

/-- `s` with those kept parts taken from `t` that a command changes: all a power-on reset resets, the epoch counter at a JOIN, the
command status at START and STOP, the profile apart from its staged copy at COMMIT, the staged copy at a write of it, and the
capture at a soft reset and at a capturing read. -/
def Instr.over (c : Instr) (s t : State) : State :=
  match c with
  | .powerOnReset _ _ => { t with freeIndex := s.freeIndex, pending := s.pending }
  | .join _ _ _ => { s with epochCounter := t.epochCounter }
  | .start => { s with rank := t.rank }
  | .stop => { s with rank := t.rank }
  | .commit => { s with profile := { t.profile with staged := s.profile.staged } }
  | .stagedProfileWrite _ _ _ => { s with profile := { s.profile with staged := t.profile.staged } }
  | .softReset => { s with capture := t.capture }
  | .registerCapture _ => { s with capture := t.capture }
  | _ => s

/-- Every command completes, and of the kept parts it changes only its own. -/
theorem exec_answers (c : Instr) (s : State) : ∃ t, exec c s = .next t ∧ (c.over s t).Keeps t := by
  cases c with
  | powerOnReset lanes thot => exact execPowerOnReset_answers lanes thot s
  | join p h revision => exact execJoin_answers p h revision s
  | start => exact execStart_answers s
  | stop => exact execStop_answers s
  | commit => exact execCommit_answers s
  | stagedProfileWrite field byte value => exact execStagedProfileWrite_answers field byte value s
  | softReset => exact execSoftReset_answers s
  | registerCapture address => exact execRegisterCapture_answers address s
  | linkUp p => exact State.answers_ite (by simp)
  | linkDown p => exact execLinkDown_answers p s
  | thotAsserted => exact State.answers_next (by simp)
  | thotDeasserted => exact State.answers_next (by simp)
  | frameCrcDiscard p bytes => exact State.answers_ite (by simp)
  | frameOutOfSequence p seq => exact State.answers_ite (by simp)
  | leave p h => exact State.answers_next (s.receive_keeps p h false _ fun u => u.takeLeave_keeps p h.tag)
  | leaseExtend p h bank => exact State.answers_next (s.receive_keeps p h false _ fun u => u.takeExtend_keeps p h.tag bank)
  | cancel p h target => exact State.answers_next (s.receive_keeps p h false _ fun u => u.takeCancel_keeps p h.tag target)
  | sleepVote p h => exact State.answers_next (s.receive_keeps p h false _ fun u => u.takeSleepVote_keeps p h.tag)
  | wake p h => exact State.answers_next (s.receive_keeps p h false _ fun u => u.takeWake_keeps p h.tag)
  | tempReport p h t => exact State.answers_next (s.receive_keeps p h false _ fun u => u.takeReport_keeps p h.tag t)
  | rowOpen p h bank row => exact State.answers_next (s.queued_keeps p h bank _)
  | colRead p h bank row column flags => exact State.answers_next (s.queued_keeps p h bank _)
  | colWrite p h bank row column flags data => exact State.answers_next (s.queued_keeps p h bank _)
  | rowClose p h bank => exact State.answers_next (s.queued_keeps p h bank _)
  | handedToLink p => exact execHandedToLink_answers p s
  | readyToLeave p => exact execReadyToLeave_answers p s
  | leaveComplete p => exact execLeaveComplete_answers p s
  | holdMet id => exact State.answers_ite (by simp)
  | windowEntryLeaves => exact State.answers_ite (by simp)
  | leaseWarning b => exact execLeaseWarning_answers b s
  | leaseExpiry b => exact execLeaseExpiry_answers b s
  | graceEnd => exact State.answers_ite (by simp)
  | intervalTimerExpiry => exact State.answers_ite s.expireInterval_keeps
  | entryAged p tag => exact execEntryAged_answers p tag s
  | writeBurstStart => exact execWriteBurstStart_answers s
  | readBurstStart => exact execReadBurstStart_answers s
  | writeDataEnd => exact execWriteDataEnd_answers s
  | readDataArrival data => exact execReadDataArrival_answers data s
  | rowOpenIssued => exact execRowOpenIssued_answers s
  | colReadIssued => exact execColReadIssued_answers s
  | colWriteIssued => exact execColWriteIssued_answers s
  | rowCloseIssued => exact execRowCloseIssued_answers s
  | revocationCloseIssued => exact execRevocationCloseIssued_answers s
  | refreshIssued => exact execRefreshIssued_answers s
  | shortCalibrationIssued => exact State.answers_ite s.issueShortCalibration_keeps
  | longCalibrationIssued => exact State.answers_ite s.issueLongCalibration_keeps
  | modeSetIssued => exact execModeSetIssued_answers s
  | powerDownEntryIssued => exact State.answers_ite s.issuePowerDownEntry_keeps
  | powerDownExitIssued => exact State.answers_ite s.issuePowerDownExit_keeps
  | selfRefreshEntryIssued => exact State.answers_ite s.issueSelfRefreshEntry_keeps
  | selfRefreshExitIssued => exact State.answers_ite s.issueSelfRefreshExit_keeps
  | longCalBusyEnd => exact execLongCalBusyEnd_answers s
  | shortCalBusyEnd => exact State.answers_ite (by simp)
  | lockEnd => exact State.answers_ite (by simp)
  | resetHoldEnd => exact execResetHoldEnd_answers s
  | clockSettleEnd => exact execClockSettleEnd_answers s
  | exitWaitEnd => exact execExitWaitEnd_answers s
  | modeLoadEnd => exact State.answers_ite (by simp)
  | idleTimerExpiry => exact State.answers_ite (by simp)
  | residencyEnd => exact execResidencyEnd_answers s
  | wakeEnd => exact State.answers_ite s.endWake_keeps
  | faultPop => exact execFaultPop_answers s
  | mgmtErrorClear value => exact State.answers_ite (by simp)
  | alertMaskWrite value => exact State.answers_next (by simp)
  | mgmtWriteBad address value => exact State.answers_ite (by simp)
  | badKindFrame p h kind length => exact execBadKindFrame_answers p h kind length s

theorem exec_keeps {c : Instr} {s t : State} (h : exec c s = .next t) : (c.over s t).Keeps t := by
  obtain ⟨u, hu, keeps⟩ := exec_answers c s
  cases hu.symm.trans h
  exact keeps

/-! ### Which command changes which part -/

theorem Instr.over_time (c : Instr) (s t : State) (notReset : ∀ lanes thot, c ≠ .powerOnReset lanes thot) :
    (c.over s t).time = s.time := by
  cases c with
  | powerOnReset lanes thot => exact absurd rfl (notReset lanes thot)
  | _ => rfl

theorem Instr.over_profile (c : Instr) (s t : State) (notReset : ∀ lanes thot, c ≠ .powerOnReset lanes thot) :
    (c ≠ .commit → (c.over s t).profile = { s.profile with staged := (c.over s t).profile.staged }) ∧
      ((∀ field byte value, c ≠ .stagedProfileWrite field byte value) →
        (c.over s t).profile.staged = s.profile.staged) := by
  cases c with
  | powerOnReset lanes thot => exact absurd rfl (notReset lanes thot)
  | commit => exact ⟨fun notCommit => absurd rfl notCommit, fun _ => rfl⟩
  | stagedProfileWrite field byte value => exact ⟨fun _ => rfl, fun notWrite => absurd rfl (notWrite field byte value)⟩
  | _ => exact ⟨fun _ => rfl, fun _ => rfl⟩

theorem Instr.over_epochCounter (c : Instr) (s t : State) (notReset : ∀ lanes thot, c ≠ .powerOnReset lanes thot)
    (notJoin : ∀ p h revision, c ≠ .join p h revision) : (c.over s t).epochCounter = s.epochCounter := by
  cases c with
  | powerOnReset lanes thot => exact absurd rfl (notReset lanes thot)
  | join p h revision => exact absurd rfl (notJoin p h revision)
  | _ => rfl

theorem Instr.over_status (c : Instr) (s t : State) (notReset : ∀ lanes thot, c ≠ .powerOnReset lanes thot)
    (notStart : c ≠ .start) (notStop : c ≠ .stop) : (c.over s t).rank.status = s.rank.status := by
  cases c with
  | powerOnReset lanes thot => exact absurd rfl (notReset lanes thot)
  | start => exact absurd rfl notStart
  | stop => exact absurd rfl notStop
  | _ => rfl

theorem Instr.over_capture (c : Instr) (s t : State) (notReset : ∀ lanes thot, c ≠ .powerOnReset lanes thot)
    (notSoft : c ≠ .softReset)
    (notRead : ∀ address, c ≠ .registerCapture address) : (c.over s t).capture = s.capture := by
  cases c with
  | powerOnReset lanes thot => exact absurd rfl (notReset lanes thot)
  | softReset => exact absurd rfl notSoft
  | registerCapture address => exact absurd rfl (notRead address)
  | _ => rfl

end Sys2Proof

namespace Sys2Proof.Proofs

open Sys2Proof Sys2Proof.Machine

/-- Settles O4: `exec_keeps` gives every kept part of the answer, and `Instr.over` says which of them the command may change. -/
theorem partsChangedOnlyByTheirCommands : Obligations.PartsChangedOnlyByTheirCommands := by
  intro c s t h notReset
  obtain ⟨time, epoch, profile, status, capture, -, -⟩ := exec_keeps h
  obtain ⟨rest, staged⟩ := c.over_profile s t notReset
  refine ⟨time.trans (c.over_time s t notReset), fun notCommit => ?_, fun notWrite => ?_,
    fun notJoin => epoch.trans (c.over_epochCounter s t notReset notJoin),
    fun notStart notStop => status.trans (c.over_status s t notReset notStart notStop),
    fun notSoft notRead => capture.trans (c.over_capture s t notReset notSoft notRead)⟩
  · rw [profile, rest notCommit]
    exact ⟨rfl, rfl, rfl⟩
  · rw [profile, staged notWrite]

/-- Settles O2: the two branches of the idle step (assumption 7). -/
theorem idleStepTakesDueHappeningOrOneCk : Obligations.IdleStepTakesDueHappeningOrOneCk := by
  intro s empty
  have idle : step s = idleStep s := by rw [step, empty]
  constructor
  · intro c due
    rw [idle, idleStep, due, State.drawn]
  · intro quiet
    rw [idle, idleStep, quiet, State.tick]

end Sys2Proof.Proofs
end

section
/-! PROOFS. The state after reset and after power-on reset, and the tables of front-entry evaluation: O14, O16 and O33. -/

namespace Sys2Proof.Machine

/-! ### The state after reset -/

theorem FaultUnit.reset_inv : FaultUnit.reset.Inv := by
  refine ⟨by decide, by decide, by decide, by decide, ?_⟩
  simp [FaultUnit.reset]

theorem State.reset_profileInv : State.reset.ProfileInv :=
  ⟨.inl rfl, fun _ => rfl, fun n h => by cases h⟩

theorem State.reset_refreshInv : State.reset.RefreshInv := by
  refine ⟨by decide, by decide, by decide, fun p x h => ?_⟩
  simp [State.reset, RefreshUnit.reset] at h

theorem State.reset_rankInv : State.reset.RankInv :=
  ⟨rfl, fun h => absurd rfl h, by decide, by decide⟩

theorem State.reset_drainInv : State.reset.DrainInv :=
  ⟨by decide, fun _ => rfl, by decide, nofun, rfl, rfl, by decide⟩

theorem State.reset_sessionInv : State.reset.SessionInv := by
  intro p
  simp [State.reset, State.epoch?, State.current, PortLink.reset, Session.epoch?, RankController.reset]

theorem State.reset_queueInv : State.reset.QueueInv := by
  intro p
  simp [State.reset, PortQueue.reset]

/-- After power-on reset no session is current (R133). -/
@[simp] theorem State.powerOn_epoch (s : State) (lanes : Table Bool 4) (p : Port) : (s.powerOn lanes).epoch? p = none := by
  simp only [State.powerOn, State.epoch?, Table.look_map, PortLink.reset]
  split <;> rfl

/-- A notice to all goes nowhere where no session is current. -/
theorem State.told_of_no_session (s : State) (m : Message) (h : ∀ p, s.epoch? p = none) : s.told m = s := by
  have links : (s.told m).links = s.links := by
    apply Table.eq_of_look
    intro p
    simp [State.told, h]
  exact congrArg (fun l => { s with links := l }) links

/-- In OFFLINE with no vote a thermal state has no further effect (R126, R128, R131). -/
theorem State.reportThermal_of_offline (s : State) (h : s.rank = .reset) : s.reportThermal = s := by
  have still : s.judgeUnanimity = s := by
    have quiet : s.unanimous = false := by simp [State.unanimous, h, RankController.reset, Table.any_iff, Bool.eq_false_iff]
    simp [State.judgeUnanimity, quiet, h, RankController.reset]
  simp [State.reportThermal, State.judgeHotExit, State.wantWake, State.wantExit, h, RankController.reset, still]

/-- Where no session is current a change of the thermal state to HOT is recorded and told to no one (R103). -/
theorem State.thermalChange_of_no_session (s : State) (c : ThermalCause) (h : ∀ p, s.epoch? p = none) :
    s.thermalChange .hot c = { s with
      refresh := { s.refresh with thermal := .hot, timer := s.refresh.timer.map fun x => min x (s.time + s.prof.tRFI / 2) }
      fault := s.fault.hand ⟨.thermalHot, c.port?, none, .cause c, s.time48⟩ } := by
  have untold := (State.noticeAll_told { s with refresh := { s.refresh with thermal := .hot } } (.thermal .hot)).trans
    (State.told_of_no_session _ _ h)
  rw [State.thermalChange, untold]
  rfl

/-- Power-on reset with THOT asserted: the thermal state goes to HOT with its record, and nothing else happens, since no session is
current to be told and no rank stands to be woken (R101, R102, R103). -/
theorem State.powerOn_takeThot (s : State) (lanes : Table Bool 4) :
    (s.powerOn lanes).takeThot true = { s.powerOn lanes with
      refresh := { RefreshUnit.reset with thot := true, thermal := .hot }
      fault := FaultUnit.reset.hand ⟨.thermalHot, none, none, .cause .thot, 0⟩ } := by
  have change (u : State) (hot : u.thermalNext = .hot) (was : u.refresh.thermal = .normal) :
      u.evalThermal .thot id = (u.thermalChange .hot .thot).reportThermal := by
    simp [State.evalThermal, hot, was]
  rw [State.takeThot, change _ rfl rfl, State.thermalChange_of_no_session, State.reportThermal_of_offline]
  · rfl
  · rfl
  · exact s.powerOn_epoch lanes

end Sys2Proof.Machine

namespace Sys2Proof.Proofs
open Sys2Proof Sys2Proof.Machine

/-- Settles O14: one lemma per block's invariant. -/
theorem resetMeetsTheInvariants : Obligations.ResetMeetsTheInvariants :=
  ⟨FaultUnit.reset_inv, State.reset_profileInv, State.reset_refreshInv, State.reset_rankInv, State.reset_drainInv,
    State.reset_sessionInv, State.reset_queueInv⟩

/-- Settles O33: the tables of R49 to R51, by the bank's state and whether the requester owns the bank. -/
theorem evaluationTables : Obligations.EvaluationTables := by
  intro o row column ac slot b
  obtain ⟨state, record⟩ := b
  refine ⟨?_, ?_, ?_, ?_, rfl⟩
  · rintro ⟨⟩
    refine ⟨rfl, rfl, ?_⟩
    simp only [evaluate, evalColumn, lostOrNotOwner]
    split <;> simp [*]
  · rintro l ⟨⟩ rfl
    simp [evaluate, evalRowOpen, evalRowClose, evalColumn]
  · rintro l ⟨⟩ other
    simp only [evaluate, evalRowOpen, evalRowClose, evalColumn, lostOrNotOwner, if_neg other]
    refine ⟨trivial, trivial, ?_⟩
    split <;> simp [*]
  · rintro r ⟨⟩
    refine ⟨rfl, rfl, ?_⟩
    simp only [evaluate, evalColumn, lostOrNotOwner]
    by_cases own : r.owner = o
    · simp [own]
    · simp only [own, if_false, false_or]
      split <;> simp [*]

/-- Settles O16: the plain reset, and THOT asserted at the release after it. -/
theorem powerOnResetState : Obligations.PowerOnResetState := by
  intro lanes thot s
  have ports (p : Port) : (s.powerOn lanes).queues.look p = ⟨[], []⟩ ∧
      (∀ i, ((s.powerOn lanes).mover.ports.look p).slots.look i = .free) ∧
      (∀ i, ((s.powerOn lanes).mover.ports.look p).spaces.look i = .free) ∧
      (s.powerOn lanes).links.look p = ⟨if lanes.look p then .linked else .down, 0, false, 0, [], none⟩ := by
    simp [State.powerOn, State.reset, PortQueue.reset, DataMover.reset, MoverPort.reset, PortLink.reset]
  have banks (b : Bank) : (s.powerOn lanes).banks.look b = ⟨.closed, none⟩ := by
    simp [State.powerOn, State.reset, BankEntry.reset]
  have holds (id : HoldId) : (s.powerOn lanes).holds.holds.hold id = none := by
    cases id <;> simp [State.powerOn, State.reset, HoldUnit.reset, Holds.allMet, Holds.hold]
  refine ⟨_, rfl, ?_⟩
  cases thot with
  | false => exact ⟨rfl, rfl, rfl, banks, holds, rfl, rfl, rfl, rfl, rfl, rfl, rfl, rfl, ports, rfl, rfl⟩
  | true =>
    rw [if_pos rfl, s.powerOn_takeThot lanes]
    exact ⟨rfl, rfl, rfl, banks, holds, rfl, rfl, rfl, rfl, rfl, rfl, rfl, rfl, ports, rfl, rfl⟩

end Sys2Proof.Proofs
end

section
/-! PROOFS. The happenings that change one lease or one entry: O25 and O37. -/

namespace Sys2Proof.Machine

/-! ### Warning and aging (R10, R56) -/

/-- A warning is due while it is to come: tWARN above 0, not yet warned, the warning point reached (R10). -/
theorem Lease.warningDue_iff (l : Lease) (tWARN now : Nat) :
    l.warningDue tWARN now = true ↔ 0 < tWARN ∧ l.warned = false ∧ l.deadline ≤ now + tWARN := by
  simp [Lease.warningDue, and_assoc]

/-- LEASE_WARNING of an OPEN bank is the warning while it is to come, and nothing else (R10). -/
theorem execLeaseWarning_opened (s : State) (b : Bank) (l : Lease) (h : (s.banks.look b).state = .opened l) :
    execLeaseWarning b s = if l.warningDue s.prof.tWARN s.time then .next (s.sendWarning b l) else .next s := by
  simp [execLeaseWarning, State.warningDue, h, BankState.lease?]

/-- The first entry with a tag becomes aged, and no other. -/
theorem ageTag_append (before after : List Entry) (e : Entry) (h : ∀ x ∈ before, x.tag ≠ e.tag) :
    ageTag e.tag (before ++ e :: after) = before ++ { e with aged := true } :: after := by
  induction before with
  | nil => simp [ageTag]
  | cons x before ih =>
    obtain ⟨hx, hrest⟩ := List.forall_mem_cons.mp h
    simp [ageTag, hx, ih hrest]

/-! ### Banks as bytes name them (R173) -/

theorem bankOf_of_val {bank : Byte} {b : Bank} (h : bank.toNat = b.val) : bankOf bank = some b := by
  simp [bankOf, h]

theorem bankOf_of_large {bank : Byte} (h : 16 ≤ bank.toNat) : bankOf bank = none := by
  simp [bankOf, h]

/-! ### LEASE_EXTEND (R13) -/

/-- A frame counted changes no answer of the check. -/
theorem State.answered_extendCheck (s : State) (p : Port) (frames : List OutFrame) (bank : Byte) :
    (s.answered p frames).extendCheck p bank = s.extendCheck p bank := by
  simp only [State.extendCheck, State.answered_frameEpoch]
  rfl

/-- A LEASE_EXTEND that a check denies is answered with its reason. -/
theorem State.takes.extend_denied {s : State} {p : Port} {h : Header} {bank : Byte} {r : DenialReason} (t : s.takes p h)
    (check : s.extendCheck p bank = .error r) :
    exec (.leaseExtend p h bank) s = .next (s.answered p [⟨h.epoch, h.tag, .extendDenied bank r⟩]) := by
  simp only [exec, execLeaseExtend, s.receive_takes p h _ t, State.takeExtend, s.answered_extendCheck, check,
    State.answered_reply, t.frameEpoch]

/-- A LEASE_EXTEND that passes its checks gives the lease a new deadline, one extension more and no warning. -/
theorem State.takes.extend_granted {s : State} {p : Port} {h : Header} {bank : Byte} {b : Bank} {l : Lease} (t : s.takes p h)
    (check : s.extendCheck p bank = .ok (b, l)) :
    exec (.leaseExtend p h bank) s = .next
      { s.answered p [⟨h.epoch, h.tag, .extended b s.prof.tLEASE (s.prof.maxExtensions - (l.extensions + 1))⟩] with
        banks := s.banks.put b { s.banks.look b with state := .opened (s.extended l) } } := by
  have reply := s.answered_reply p h.tag (.extended b s.prof.tLEASE (s.prof.maxExtensions - (l.extensions + 1)))
  rw [t.frameEpoch] at reply
  simp only [exec, execLeaseExtend, s.receive_takes p h _ t, State.takeExtend, s.answered_extendCheck, check, ← reply]
  rfl

/-- The checks of R13 on a bank that a lease holds OPEN. -/
theorem State.extendCheck_opened {s : State} {p : Port} {bank : Byte} {b : Bank} {l : Lease} (hb : bank.toNat = b.val)
    (held : (s.banks.look b).state = .opened l) : s.extendCheck p bank =
      if l.owner ≠ ⟨p, s.frameEpoch p⟩ then .error .notOwner
      else if l.contended then .error .contended
      else if s.prof.maxExtensions ≤ l.extensions then .error .limit
      else .ok (b, l) := by
  simp only [State.extendCheck, bankOf_of_val hb, held]

/-- The first check of R13 fails where the port's session holds no lease on the bank. -/
theorem State.extendCheck_not_owner {s : State} {p : Port} {bank : Byte} {b : Bank} (hb : bank.toNat = b.val)
    (other : ∀ l, (s.banks.look b).state = .opened l → l.owner ≠ ⟨p, s.frameEpoch p⟩) :
    s.extendCheck p bank = .error .notOwner := by
  cases hs : (s.banks.look b).state with
  | opened l => rw [State.extendCheck_opened hb hs, if_pos (other l hs)]
  | _ => simp only [State.extendCheck, bankOf_of_val hb, hs]

end Sys2Proof.Machine

namespace Sys2Proof.Proofs
open Sys2Proof Sys2Proof.Machine

/-- Settles O37: the warning due, the warning not to come, the aging. -/
theorem warningAndAgingChangeOneMark : Obligations.WarningAndAgingChangeOneMark := by
  intro s
  refine ⟨fun b l held on unwarned reached => ?_, fun b l held done => ?_, fun p before e after queue first young waited => ?_⟩
  · rw [exec, execLeaseWarning_opened s b l held, if_pos ((l.warningDue_iff _ _).mpr ⟨on, unwarned, reached⟩)]
    rfl
  · rw [exec, execLeaseWarning_opened s b l held, if_neg]
    rw [l.warningDue_iff]
    rintro ⟨on, unwarned, -⟩
    rcases done with warned | off
    · exact absurd (warned.symm.trans unwarned) (by decide)
    · omega
  · have found : (s.queues.look p).entries.find? (fun x => x.tag == e.tag) = some e := by
      rw [queue, List.find?_eq_some_iff_append]
      exact ⟨by simp, before, after, rfl, fun x hx => by simpa using first x hx⟩
    have due : s.agingDue e = true := by simp [State.agingDue, young, State.reached, waited]
    have marked := ageTag_append before after e first
    rw [← queue] at marked
    simp only [exec, execEntryAged, found, due, if_true, State.modQueue, Table.modify, marked]

/-- Settles O25: the checks of R13 in their order, a bank above 15 failing the first (R173). -/
theorem leaseExtendAnswers : Obligations.LeaseExtendAnswers := by
  intro s p h bank t denied
  have epoch := t.frameEpoch
  refine ⟨fun large => t.extend_denied (by simp [State.extendCheck, bankOf_of_large large]), fun b hb => ⟨fun other => ?_, ?_⟩⟩
  · exact t.extend_denied (State.extendCheck_not_owner hb (by rwa [epoch]))
  · intro l held own
    have check : s.extendCheck p bank = if l.contended then .error .contended
        else if s.prof.maxExtensions ≤ l.extensions then .error .limit else .ok (b, l) := by
      rw [State.extendCheck_opened hb held, epoch, if_neg (not_not.mpr own)]
    refine ⟨fun contended => ?_, fun free limit => ?_, fun free below => ?_⟩
    · exact t.extend_denied (by rw [check, if_pos contended])
    · exact t.extend_denied (by rw [check, if_neg (by simp [free]), if_pos limit])
    · exact t.extend_granted (by rw [check, if_neg (by simp [free]), if_neg (by omega)])

end Sys2Proof.Proofs
end

section
/-! PROOFS. A request that passes its arrival checks (R44, R45), and the contention it can set (R10 to R12): O31 and O34. -/

namespace Sys2Proof.Machine

/-! ### The idle timer apart -/

/-- The state with its idle timer as given. -/
def State.withIdle (s : State) (i : IdleTimer) : State := { s with rank := { s.rank with idle := i } }

@[simp] theorem State.withIdle_bare (s : State) (i : IdleTimer) : (s.withIdle i).bare = s.bare := rfl

/-- Judging the idle timer sets the idle timer. -/
theorem State.judgeIdle_withIdle (s : State) : ∃ i, s.judgeIdle = s.withIdle i := by
  simp only [State.judgeIdle]
  repeat' split
  all_goals exact ⟨_, rfl⟩

/-! ### The acceptance of a request (R45) -/

/-- A cause of exit and of wake rouses the rank (R126, R131). -/
theorem State.wantExit_wantWake (s : State) : s.wantExit.wantWake = s.setRank s.rank.state.roused := by
  have same : ∀ x, s.rank.state = x → s = s.setRank x := by rintro _ rfl; rfl
  cases hs : s.rank.state with
  | powerDown r => simp [State.wantExit, State.wantWake, hs, RankState.roused, State.setRank]
  | sleep wanted => simp [State.wantExit, State.wantWake, hs, RankState.roused]
  | _ => simpa [State.wantExit, State.wantWake, hs, RankState.roused] using same _ hs

/-- What an acceptance makes of the rank and the drain (R45 step 5): the vote AWAKE, a sleep entry withdrawn, exit and wake wanted,
the idle timer judged. -/
theorem State.reportArrival_eq (s : State) (p : Port) : ∃ i, s.reportArrival p = State.withIdle
    { s with
      rank := { s.rank with state := s.rank.state.roused, votes := s.rank.votes.put p (some .awake), sleepBegun := false }
      drain := s.drainAwake } i := by
  obtain ⟨i, first⟩ := (s.setVote p (some .awake)).judgeIdle_withIdle
  have vote : ((s.setVote p (some .awake)).withIdle i).rank.votes.look p = some .awake := Table.look_put_same _ _ _
  rw [State.reportArrival, first, State.judgeUnanimity_of_awake _ _ p vote, State.wantExit_wantWake]
  by_cases begun : s.rank.sleepBegun = true
  · obtain ⟨j, second⟩ := State.judgeIdle_withIdle { (s.setVote p (some .awake)).withIdle i with
      drain := s.drainAwake, rank := { ((s.setVote p (some .awake)).withIdle i).rank with sleepBegun := false } }
    refine ⟨j, ?_⟩
    rw [if_pos (show ((s.setVote p (some .awake)).withIdle i).rank.sleepBegun = true from begun)]
    exact (congrArg (fun u : State => (id u).setRank (id u).rank.state.roused) second)
  · refine ⟨i, ?_⟩
    have asleep : s.rank.sleepBegun = false := by simpa using begun
    have drain : s.drainAwake = s.drain := by simp [State.drainAwake, asleep]
    rw [if_neg (show ¬((s.setVote p (some .awake)).withIdle i).rank.sleepBegun = true from begun), drain, ← asleep]
    rfl

/-- A request accepted is what its acceptance says, the idle timer judged, and then its evaluation where it is the front entry for
its bank (R45). -/
theorem State.accept_eq (s : State) (p : Port) (h : Header) (b : Bank) (a : Arrival) (slot : Fin 8) (t : s.takes p h) :
    ∃ i, (s.answered p []).accept p h.tag b a slot =
      if (s.front p b).isNone then ((s.accepted p h b a slot).withIdle i).evalFront p b
      else (s.accepted p h b a slot).withIdle i := by
  let u := (((s.answered p []).modQueue p fun q =>
    { entries := q.entries ++ [⟨h.tag, b, a.request slot, s.time, false, none⟩], outstanding := q.outstanding ++ [h.tag] }).holdSlot
      p h.tag slot a).modPortCounters p fun c => { c with accepted := c.accepted + 1 }
  obtain ⟨i, report⟩ := u.reportArrival_eq p
  refine ⟨i, ?_⟩
  have accepted : u.reportArrival p = (s.accepted p h b a slot).withIdle i := by
    rw [report]
    cases a with
    | colWrite row column ac d =>
      have epoch : (s.answered p []).frameEpoch p = h.epoch := by rw [State.answered_frameEpoch, t.frameEpoch]
      rw [State.accepted, ← epoch]
      rfl
    | _ => rfl
  rw [← accepted]
  rfl

/-! ### The arrival checks (R44) -/

/-- The ranges of check 3 of Table 3-2. -/
theorem Arrival.inRange_iff (a : Arrival) (f : Profile) : a.inRange f = true ↔ a.fits f := by
  cases a <;> simp [Arrival.inRange, Arrival.fits, rowInRange, columnInRange]

theorem Session.isLeaving_iff (x : Session) :
    x.isLeaving = true ↔ ∃ e tag asked report, x = .leaving e tag asked report := by
  cases x <;> simp [Session.isLeaving]

theorem Arrival.needsSlot_iff (a : Arrival) : a.needsSlot = true ↔ ∃ row column ac d, a = .colWrite row column ac d := by
  cases a <;> simp [Arrival.needsSlot]

theorem WriteSlot.inUse_eq_false (w : WriteSlot) : w.inUse = false ↔ w = .free := by
  cases w <;> simp [WriteSlot.inUse]

/-- The slot a COL_WRITE takes is the lowest FREE one (R148). -/
theorem State.freeSlot_of_lowest (s : State) (p : Port) (i : Fin 8) (free : (s.mover.ports.look p).slots.look i = .free)
    (lowest : ∀ j < i, (s.mover.ports.look p).slots.look j ≠ .free) : s.freeSlot p = some i := by
  have order : ∀ j : Fin 8, allSlots[j] = j := by decide
  rw [State.freeSlot, List.find?_eq_some_iff_getElem]
  refine ⟨by simp [free, WriteSlot.inUse], i.val, i.isLt, order i, fun j hj => ?_⟩
  have used := lowest ⟨j, by omega⟩ hj
  rw [ne_eq, ← WriteSlot.inUse_eq_false] at used
  have at_j : allSlots[j]'(by simp [allSlots]; omega) = ⟨j, by omega⟩ := order ⟨j, by omega⟩
  simpa [at_j] using used

/-- A request that passes every arrival check is accepted for its bank, a COL_WRITE with its slot (R44). -/
theorem State.Admits.arrivalCheck {s : State} {p : Port} {tag bank : Byte} {a : Arrival} {b : Bank} {slot : Fin 8}
    (admits : s.Admits p tag bank a b slot) :
    s.arrivalCheck p tag bank a = .ok (b, if a.needsSlot then slot else 0) := by
  obtain ⟨passes, hb, taken⟩ := admits
  simp only [State.arrivalFailures, List.forall_mem_cons, not_or, not_not, ← Session.isLeaving_iff, ← Arrival.inRange_iff, ← Arrival.needsSlot_iff] at passes taken
  obtain ⟨notOffline, notStopping, notLeaving, ⟨-, inRange⟩, newTag, room, -⟩ := passes
  simp only [State.arrivalCheck, bankOf_of_val hb, notOffline, notStopping, notLeaving, inRange, newTag, room, if_false]
  cases needs : a.needsSlot with
  | false => simp
  | true =>
    obtain ⟨free, lowest⟩ := taken needs
    simp [s.freeSlot_of_lowest p slot free lowest]

/-- A frame counted changes no answer of the arrival checks. -/
theorem State.answered_arrivalCheck (s : State) (p : Port) (frames : List OutFrame) (tag bank : Byte) (a : Arrival) :
    (s.answered p frames).arrivalCheck p tag bank a = s.arrivalCheck p tag bank a := by
  have session : ((s.answered p frames).links.look p).session = (s.links.look p).session := by simp [State.answered]
  simp only [State.arrivalCheck, session]
  rfl

/-- A queued-kind request admitted: accepted, evaluated where it is the front entry for its bank, and readiness assessed. -/
theorem State.queued_admitted {s : State} {p : Port} {h : Header} {bank : Byte} {a : Arrival} {b : Bank} {slot : Fin 8}
    (t : s.takes p h) (admits : s.Admits p h.tag bank a b slot) :
    ∃ i, s.queued p h bank a = State.settle (if (s.front p b).isNone then ((s.accepted p h b a slot).withIdle i).evalFront p b
      else (s.accepted p h b a slot).withIdle i) := by
  obtain ⟨i, accepted⟩ := s.accept_eq p h b a slot t
  have slotted : (s.answered p []).accept p h.tag b a (if a.needsSlot then slot else 0) =
      (s.answered p []).accept p h.tag b a slot := by
    cases a <;> rfl
  refine ⟨i, ?_⟩
  rw [State.queued, s.receive_takes p h _ t, State.arrive, s.answered_arrivalCheck, admits.arrivalCheck, ← accepted, ← slotted]

/-- A queued-kind command is its request's arrival. -/
theorem exec_of_arrival {c : Instr} {p : Port} {h : Header} {bank : Byte} {a : Arrival} (hc : c.arrival? = some (p, h, bank, a))
    (s : State) : exec c s = .next (s.queued p h bank a) := by
  unfold Instr.arrival? at hc
  split at hc <;> cases hc <;> rfl

/-! ### The evaluation of the entry accepted (R49, R50, R51) -/

/-- The only entry of its port for its bank is the front entry for the bank (R47). -/
theorem State.accepted_front {s : State} {p : Port} {b : Bank} (none : s.front p b = none) (h : Header) (a : Arrival)
    (slot : Fin 8) (i : IdleTimer) :
    ((s.accepted p h b a slot).withIdle i).front p b = some (a.entry h.tag b slot s.time) := by
  have before : (s.queues.look p).entries.find? (fun e => e.bank == b) = Option.none := none
  simp [State.front, State.accepted, State.withIdle, before, Arrival.entry]

/-- The entry accepted is evaluated for the session of its frame against its bank as it stands. -/
theorem State.takes.accepted_outcome {s : State} {p : Port} {h : Header} (t : s.takes p h) (b : Bank) (a : Arrival)
    (slot : Fin 8) (i : IdleTimer) :
    ((s.accepted p h b a slot).withIdle i).outcome p (a.entry h.tag b slot s.time) =
      evaluate ⟨p, h.epoch⟩ (a.entry h.tag b slot s.time).request (s.banks.look b) := by
  have epoch : (s.answered p []).frameEpoch p = h.epoch := by rw [State.answered_frameEpoch, t.frameEpoch]
  rw [← epoch]
  rfl

/-- A front entry that waits sets the contention it asks for, and stays (R49). -/
theorem State.evalFront_wait (s : State) (p : Port) (b : Bank) (e : Entry) (contend : Bool) (h : s.front p b = some e)
    (hw : s.outcome p e = .wait contend) : s.evalFront p b = if contend then s.setContention b else s := by
  have some_entry : (s.queues.look p).entries ≠ [] := by
    intro none
    simp [State.front, none] at h
  obtain ⟨n, hn⟩ := Nat.exists_eq_succ_of_ne_zero (mt List.length_eq_zero_iff.mp some_entry)
  simp [State.evalFront, hn, State.evalRun, h, hw]

/-! ### Contention (R10, R11, R12) -/

/-- A bank already contended is left as it is (R12). -/
theorem State.setContention_contended (s : State) (b : Bank) (l : Lease) (h : (s.banks.look b).state = .opened l)
    (contended : l.contended = true) : s.setContention b = s := by
  simp [State.setContention, h, contended]

/-- A REVOKING bank is marked (R11). -/
theorem State.setContention_revoking (s : State) (b : Bank) (r : Revocation) (h : (s.banks.look b).state = .revoking r) :
    s.setContention b = { s with banks := s.banks.put b { s.banks.look b with state := .revoking { r with contended := true } } } := by
  simp only [State.setContention, h]
  rfl

/-- What contention makes of an OPEN lease that is not contended: the cap (R11). -/
def Lease.capped (l : Lease) (cap : Nat) : Lease := { l with deadline := cap, contended := true }

/-- An OPEN lease capped, its owner told, with the warning after it where the cap has moved the warning point to or before now
(R10, R11). -/
theorem State.setContention_opened (s : State) (b : Bank) (l : Lease) (h : (s.banks.look b).state = .opened l)
    (free : l.contended = false) :
    let cap := min l.deadline (s.time + s.prof.tCONT)
    let told := s.frameEpoch l.owner.port
    let warn := cap < l.deadline ∧ 0 < s.prof.tWARN ∧ l.warned = false ∧ cap ≤ s.time + s.prof.tWARN
    (warn → s.setContention b =
      { s.withSent l.owner.port [⟨told, 0, .contended b (cap - s.time)⟩, ⟨told, 0, .leaseWarning b (cap - s.time)⟩] with
        banks := s.banks.put b { s.banks.look b with state := .opened { l.capped cap with warned := true } } }) ∧
    (¬warn → s.setContention b = { s.withSent l.owner.port [⟨told, 0, .contended b (cap - s.time)⟩] with
        banks := s.banks.put b { s.banks.look b with state := .opened (l.capped cap) } }) := by
  intro cap told warn
  let first := s.withSent l.owner.port [⟨told, 0, .contended b (cap - s.time)⟩]
  let banks := s.banks.put b { s.banks.look b with state := .opened (l.capped cap) }
  have unfolded : s.setContention b =
      if cap < l.deadline && (l.capped cap).warningDue s.prof.tWARN s.time then
        State.sendWarning { first with banks := banks } b (l.capped cap)
      else { first with banks := banks } := by
    simp only [State.setContention, h, free]
    rfl
  have due : (decide (cap < l.deadline) && (l.capped cap).warningDue s.prof.tWARN s.time) = true ↔ warn := by
    rw [Bool.and_eq_true, decide_eq_true_eq, Lease.warningDue_iff]
    rfl
  rw [unfolded]
  refine ⟨fun w => ?_, fun w => by rw [if_neg (mt due.mp w)]⟩
  have epoch : first.frameEpoch l.owner.port = told := by simp [first, told, State.frameEpoch]
  have warned : State.sendWarning { first with banks := banks } b (l.capped cap) =
      { first.withSent l.owner.port [⟨first.frameEpoch l.owner.port, 0, .leaseWarning b (cap - s.time)⟩] with
        banks := banks.put b { banks.look b with state := .opened { l.capped cap with warned := true } } } := rfl
  rw [if_pos (due.mpr w), warned, epoch, State.withSent_withSent, Table.put_put, Table.look_put_same]
  rfl

end Sys2Proof.Machine

namespace Sys2Proof.Proofs

open Sys2Proof Sys2Proof.Machine

/-- No front entry for a bank is no entry for it (R47). -/
theorem front_eq_none {s : State} {p : Port} {b : Bank} :
    s.front p b = none ↔ ∀ e ∈ (s.queues.look p).entries, e.bank ≠ b := by
  simp [State.front]

/-- Settles O31: the entry accepted is not evaluated behind another of its port for its bank, stays where it is a candidate, and
waits without contention for a bank REVOKING under its own session. -/
theorem acceptedRequestJoinsTheQueue : Obligations.AcceptedRequestJoinsTheQueue := by
  intro s c p h bank a b slot hc t admits stays
  obtain ⟨i, arrived⟩ := State.queued_admitted t admits
  refine ⟨_, exec_of_arrival hc s, ?_⟩
  rw [arrived, State.settle_bare]
  by_cases none : s.front p b = none
  · have front := State.accepted_front none h a slot i
    have outcome := t.accepted_outcome b a slot i
    rw [none, Option.isNone_none, if_pos rfl]
    rcases stays with ⟨e, mem, same⟩ | candidate | ⟨⟨row, rfl⟩, r, revoking, own⟩
    · exact absurd same (front_eq_none.mp none e mem)
    · rw [State.evalFront_candidate _ p b _ front (outcome.trans candidate), State.withIdle_bare]
    · have waits : evaluate ⟨p, h.epoch⟩ (Request.rowOpen row) (s.banks.look b) = .wait false := by
        simp [evaluate, evalRowOpen, revoking, own]
      rw [State.evalFront_wait _ p b _ false front (outcome.trans waits), if_neg (by decide), State.withIdle_bare]
  · rw [if_neg (by simpa using none), State.withIdle_bare]

/-- Settles O34: the ROW_OPEN is the front entry for its bank and waits for another session's, so that its evaluation is the
setting of contention. -/
theorem contentionCapsTheLease : Obligations.ContentionCapsTheLease := by
  intro s p h bank row b t admits sole u x
  obtain ⟨i, arrived⟩ := State.queued_admitted t admits
  have none := front_eq_none.mpr sole
  have front := State.accepted_front none h (.rowOpen row) 0 i
  have epoch (q : Port) : (u.withIdle i).frameEpoch q = (s.epoch? q).getD 0 := s.answered_frameEpoch p q []
  have contends (other : evaluate ⟨p, h.epoch⟩ (Request.rowOpen row) x = .wait true) :
      exec (.rowOpen p h bank row) s = .next ((u.withIdle i).setContention b).settle := by
    have waits := State.evalFront_wait _ p b _ true front ((t.accepted_outcome b _ 0 i).trans other)
    rw [exec_of_arrival rfl, arrived, none, Option.isNone_none, if_pos rfl, waits, if_pos rfl]
  constructor
  · intro l held other cap warn told
    have exec_eq := contends (by simp [evaluate, evalRowOpen, held, other])
    refine ⟨fun contended => ⟨_, exec_eq, ?_⟩, fun free w => ⟨_, exec_eq, ?_⟩, fun free w => ⟨_, exec_eq, ?_⟩⟩
    · rw [State.settle_bare, (u.withIdle i).setContention_contended b l held contended, State.withIdle_bare]
    · rw [State.settle_bare, ((u.withIdle i).setContention_opened b l held free).1 w, epoch]
      rfl
    · rw [State.settle_bare, ((u.withIdle i).setContention_opened b l held free).2 w, epoch]
      rfl
  · intro r revoking other
    refine ⟨_, contends (by simp [evaluate, evalRowOpen, revoking, other]), ?_⟩
    rw [State.settle_bare, (u.withIdle i).setContention_revoking b r revoking]
    rfl

end Sys2Proof.Proofs
end

section
/-! PROOFS. What stands at the end of an issue once its bank has changed: evaluation, unanimity, assessment (R48, R68, R128). -/

namespace Sys2Proof.Machine

/-! ### The end of a happening -/

/-- The end of a happening changes the queues' waiting-reasons and the idle timer alone (R54, R124). -/
theorem State.settle_sameBut (s : State) : SameBut [.queues, .rank] s s.settle := by
  intro x hx
  cases x <;> first | exact absurd hx (by decide) | simp [Part.Agree]

theorem State.awakeMaster.of_rank {s t : State} (awake : s.awakeMaster) (h : t.rank = s.rank) : t.awakeMaster := by
  rwa [State.awakeMaster, h]

/-- With a master awake, entries that have left their queues change nothing (R128). -/
theorem State.judgeRemoval_awake (s old : State) (awake : s.awakeMaster) : s.judgeRemoval old = s := by
  rw [State.judgeRemoval, s.judgeUnanimity_awake id awake]
  exact ite_self s

theorem Evaluated.rank {b : Bank} {s t : State} (h : Evaluated b s t) : t.rank = s.rank := h.rest .rank (by decide)

/-- What the end of a request's issue can make of `v`, which stands when the request's own effects are made: the arbiter's record
(R73), the evaluation of the entries for the bank (R48), and the assessment (R54, R124); nothing but the record and the assessment
where no entry for the bank is left. -/
structure RequestEnd (aged : Bool) (p : Port) (b : Bank) (v t : State) : Prop where
  arbiter : t.arbiter = { v.arbiter with pointer := p + 1, lastGrant := if aged then .agedRequest p else .request p }
  links : ∀ q, ∃ frames, t.links.look q = { v.links.look q with outbound := (v.links.look q).outbound ++ frames }
  others : ∀ x, x ≠ b → t.banks.look x = v.banks.look x
  revokedFrom : (t.banks.look b).revokedFrom = (v.banks.look b).revokedFrom
  contention : Contention v.time v.prof.tCONT (v.banks.look b).state (t.banks.look b).state
  spaces : ∀ q, (t.mover.ports.look q).spaces = (v.mover.ports.look q).spaces
  alone : (∀ q, v.front q b = none) → t.bare = (v.recordRequest aged p).bare
  rest : SameBut [.links, .queues, .banks, .arbiter, .mover, .rank, .fault] v t

/-- An evaluation is one also with the arbiter's record set aside. -/
theorem Evaluated.of_recordRequest {b : Bank} {s t : State} {aged : Bool} {p : Port}
    (h : Evaluated b (s.recordRequest aged p) t) : Evaluated b s { t with arbiter := s.arbiter } :=
  { links := h.links, others := h.others, revokedFrom := h.revokedFrom, contention := h.contention, spaces := h.spaces,
    dataBus := h.dataBus, queues := h.queues, untouched := h.untouched, fault := h.fault, counters := h.counters
    rest := fun x hx => by
      have same := h.rest x hx
      cases x <;> first | rfl | exact same }

/-- The arbiter's record put on a state that had it set aside. -/
theorem State.recordRequest_aside (w x : State) (aged : Bool) (p : Port)
    (h : x.arbiter = (w.recordRequest aged p).arbiter) : State.recordRequest { x with arbiter := w.arbiter } aged p = x := by
  change { x with arbiter := (w.recordRequest aged p).arbiter } = x
  rw [← h]

/-- The end of a request's issue with a master awake is an evaluation, the arbiter's record and an assessment (R48, R68, R128). -/
theorem State.afterRequest_evaluated (v : State) (aged : Bool) (p : Port) (b : Bank) (changed : Bool) (awake : v.awakeMaster) :
    ∃ u, Evaluated b v u ∧ ((∀ q, v.front q b = none) → u = v) ∧
      ((v.evalFront p b).recordRequest aged p).afterRequest b changed = (u.recordRequest aged p).settle := by
  have first := v.evalFront_evaluated p b
  have quiet (w : State) (h : w.rank = v.rank) : w.judgeUnanimity = w := w.judgeUnanimity_awake id (awake.of_rank h)
  cases changed with
  | false =>
    refine ⟨v.evalFront p b, first, fun none => v.evalFront_none p b (none p), ?_⟩
    exact congrArg State.settle (quiet _ first.rank)
  | true =>
    let w := (v.evalFront p b).recordRequest aged p
    have second : Evaluated b w (w.reevaluate b) := w.reevaluate_evaluated b
    have arbiter : (w.reevaluate b).arbiter = w.arbiter := second.rest .arbiter (by decide)
    refine ⟨{ w.reevaluate b with arbiter := (v.evalFront p b).arbiter }, first.trans second.of_recordRequest, fun none => ?_, ?_⟩
    · have passed : v.evalFront p b = v := v.evalFront_none p b (none p)
      have still : w.reevaluate b = w := w.reevaluate_none b fun q => by rw [show w = v.recordRequest aged p by rw [← passed]]; exact none q
      rw [still]
      exact passed
    · rw [State.recordRequest_aside (v.evalFront p b) (w.reevaluate b) aged p arbiter]
      exact congrArg State.settle (quiet _ (second.rank.trans first.rank))

theorem State.afterRequest_end (v : State) (aged : Bool) (p : Port) (b : Bank) (changed : Bool) (awake : v.awakeMaster) :
    RequestEnd aged p b v (((v.evalFront p b).recordRequest aged p).afterRequest b changed) := by
  obtain ⟨u, evaluated, alone, same⟩ := v.afterRequest_evaluated aged p b changed awake
  have arbiter : u.arbiter = v.arbiter := evaluated.rest .arbiter (by decide)
  obtain ⟨-, links, -, banks, -, -, settled, mover, -⟩ := State.settle_frame (u.recordRequest aged p)
  rw [same]
  exact
    { arbiter := by rw [settled, ← arbiter]; rfl
      links := fun q => by rw [links]; exact evaluated.links q
      others := fun x hx => by rw [banks]; exact evaluated.others x hx
      revokedFrom := by rw [banks]; exact evaluated.revokedFrom
      contention := by rw [banks]; exact evaluated.contention
      spaces := fun q => by rw [mover]; exact evaluated.spaces q
      alone := fun none => by rw [State.settle_bare, alone none]
      rest := by
        have recorded : SameBut [.arbiter] u (u.recordRequest aged p) := fun x hx => by
          cases x <;> first | rfl | exact absurd hx (by decide)
        exact ((evaluated.rest.mono (by decide)).trans (recorded.mono (by decide))).trans
          ((State.settle_sameBut _).mono (by decide)) }

end Sys2Proof.Machine
end

section
/-! PROOFS. What the issues of all kinds share, and the issue of a ROW_OPEN (R6, R20, R27, R39, R55): O44. -/

namespace Sys2Proof.Machine

/-! ### The command driven and the entry gone -/

/-- A command driven sets the bus and the holds, and the holds are raised as listed (R68). -/
theorem State.drive_raises (s : State) (c : BusCommand) (l : List (HoldId × Nat)) (h : (l.map Prod.fst).Nodup) :
    ∃ holds, (∀ t : State, t.holds.holds = holds → Raised l s t) ∧ s.drive c l =
      { s with holds := { s.holds with holds := holds }, arbiter := { s.arbiter with commandBus := some c } } := by
  obtain ⟨⟨raised, -, -⟩, -⟩ := s.drive_raised c l h
  refine ⟨(s.drive c l).holds.holds, fun t same => ?_, s.drive_eq c l⟩
  rw [Raised, same]
  exact raised

/-- The granted entry leaves its queue, and its tag where that settles the request (R46, R55). -/
theorem State.removeFront_issued {s v : State} {p : Port} {e : Entry} {settled : Bool} (h : s.front p e.bank = some e)
    (same : v.queues = s.queues) :
    v.removeFront p e.bank e.tag settled = { v with queues := s.queues.put p ((s.queues.look p).issued e settled) } := by
  rw [State.removeFront, State.modQueue, Table.modify, same, eraseP_front _ _ _ h]
  rfl

/-- With no other entry for its bank, the issue of an entry leaves none. -/
theorem State.onlyFor.front_eq_none {s v : State} {p : Port} {e : Entry} {settled : Bool} (only : s.onlyFor p e)
    (h : v.queues = s.queues.put p ((s.queues.look p).issued e settled)) (q : Port) : v.front q e.bank = none := by
  obtain ⟨own, others⟩ := only
  rw [State.front, h, Table.look_put, List.find?_eq_none]
  split
  · simpa [PortQueue.issued] using own
  · rename_i other
    simpa using others q (Ne.symm other)

/-- Whether all banks are CLOSED once a bank has closed. -/
theorem State.allClosed_of_closed {s v : State} {b : Bank} (closed : (v.banks.look b).state = .closed)
    (rest : ∀ x, x ≠ b → v.banks.look x = s.banks.look x) : v.allClosed = true ↔ s.restClosed b := by
  rw [v.allClosed_iff]
  refine ⟨fun all x hx => by rw [← rest x hx]; exact all x, fun all x => ?_⟩
  by_cases hx : x = b
  · rw [hx, closed]
  · rw [rest x hx]
    exact all x hx

/-- Completion changes the drain as a close asks (R80). -/
theorem State.completeDrain_onClose (s : State) (P : Prop) (h : s.allClosed = true ↔ P) : s.drain.onClose P s.completeDrain.drain := by
  unfold Drain.onClose
  rw [← h, State.completeDrain]
  cases hp : s.drain.phase <;> cases hc : s.allClosed <;> simp [State.setDrain]

/-- Completion changes only the drain. -/
theorem State.completeDrain_eq (s : State) : s.completeDrain = { s with drain := s.completeDrain.drain } := by
  unfold State.completeDrain
  cases s.drain.phase <;> simp only <;> first | rfl | (split <;> rfl)

/-- What the assessment leaves aside holds no bank. -/
theorem State.banks_of_bare {s t : State} (h : t.bare = s.bare) : t.banks = s.banks :=
  show t.bare.banks = s.bare.banks from congrArg State.banks h

/-- The state of a request's issue before the entries for its bank are evaluated: the command on the bus, the Hold Unit and the banks
as given, the entry gone. -/
def State.issuing (s : State) (p : Port) (e : Entry) (settled : Bool) (c : BusCommand) (holds : HoldUnit)
    (banks : Table BankEntry 16) : State :=
  { s with
    queues := s.queues.put p ((s.queues.look p).issued e settled)
    holds := holds, banks := banks, arbiter := { s.arbiter with commandBus := some c } }

/-! ### ROW_OPEN (R6, R20, R27, R39) -/

theorem openRaises_nodup (f : Profile) (b : Bank) : ((openRaises f b).map Prod.fst).Nodup := by simp [openRaises]

/-- The issue of a ROW_OPEN up to its end. -/
theorem State.issueRowOpen_eq (s : State) (aged : Bool) (p : Port) (e : Entry) (row : Row) (front : s.front p e.bank = some e) :
    ∃ holds, (∀ t : State, t.holds.holds = holds → Raised (openRaises s.prof e.bank) s t) ∧
      s.issueRowOpen aged p e row =
        ((State.evalFront
          ((s.withSent p [⟨s.frameEpoch p, e.tag, .issued⟩]).issuing p e true (.rowOpen e.bank row)
            ⟨holds, s.holds.window ++ [s.time], s.holds.bursts⟩
            (s.banks.modify e.bank fun x => x.open (s.newLease p row))) p e.bank).recordRequest aged p).afterRequest
          e.bank true := by
  obtain ⟨holds, raised, driven⟩ := s.drive_raises (.rowOpen e.bank row) (openRaises s.prof e.bank) (openRaises_nodup _ _)
  refine ⟨holds, raised, ?_⟩
  simp only [State.issueRowOpen, driven]
  rw [State.removeFront_issued front]
  all_goals rfl

/-- What contention can make of a lease that is not contended (R11): nothing, or the cap. -/
theorem Contention.of_free {now tCONT : Nat} {l : Lease} {x : BankState} (h : Contention now tCONT (.opened l) x)
    (free : l.contended = false) :
    ∃ l', x = .opened l' ∧ l'.row = l.row ∧ l'.owner = l.owner ∧ l'.extensions = l.extensions ∧
      (l'.contended = false → l' = l) ∧ (l'.contended = true → l'.deadline = min l.deadline (now + tCONT)) := by
  cases h with
  | same => exact ⟨l, rfl, rfl, rfl, rfl, fun _ => rfl, fun capped => absurd (free.symm.trans capped) (by decide)⟩
  | capped _ l' _ row owner deadline extensions contended _ =>
    exact ⟨l', rfl, row, owner, extensions, fun free' => absurd (free'.symm.trans contended) (by decide), fun _ => deadline⟩

/-- ROW_OPEN_ISSUED carries out the grant of a ROW_OPEN. -/
theorem exec_rowOpenIssued {s : State} {aged : Bool} {p : Port} {e : Entry} {row : Row}
    (granted : s.grantedRequest = some (aged, p, e)) (kind : e.request = .rowOpen row) :
    exec .rowOpenIssued s = .next (s.issueRowOpen aged p e row) := by
  simp only [exec, execRowOpenIssued, granted, kind]

end Sys2Proof.Machine

namespace Sys2Proof.Proofs

open Sys2Proof Sys2Proof.Machine

/-- Settles O44: the new lease can meet only contention in what follows its issue (`RequestEnd`), and nothing where no other entry
names the bank. -/
theorem rowOpenIssued : Obligations.RowOpenIssued := by
  intro s aged p e row granted kind awake b o f
  obtain ⟨-, -, front, -, -⟩ := s.grantedRequest_spec aged p e granted
  obtain ⟨holds, raised, issued⟩ := s.issueRowOpen_eq aged p e row front
  let v := (s.withSent p [⟨s.frameEpoch p, e.tag, .issued⟩]).issuing p e true (.rowOpen e.bank row)
    ⟨holds, s.holds.window ++ [s.time], s.holds.bursts⟩ (s.banks.modify e.bank fun x => x.open (s.newLease p row))
  have fin := v.afterRequest_end aged p e.bank true (awake.of_rank rfl)
  rw [← issued] at fin
  have unit : (s.issueRowOpen aged p e row).holds = v.holds := fin.rest .holds (by decide)
  have bank : v.banks.look b = (s.banks.look b).open (s.newLease p row) := Table.look_modify_same _ _ _
  refine ⟨_, exec_rowOpenIssued granted kind, fin.arbiter, raised _ (congrArg HoldUnit.holds unit), congrArg HoldUnit.window unit,
    (congrArg HoldUnit.bursts unit).trans rfl, ?_, fun r => ?_, fun x hx => ?_, ?_, fun only => ?_, ?_⟩
  · have contention := fin.contention
    rw [bank] at contention
    obtain ⟨l, opened, row', owner, extensions, kept, capped⟩ := contention.of_free rfl
    exact ⟨l, opened, row', owner, extensions, fun free => by rw [kept free]; exact ⟨rfl, rfl⟩, capped⟩
  · rw [fin.revokedFrom, bank]
    simp [BankEntry.open, State.newLease, Option.filter_eq_some_iff]
  · rw [fin.others x hx]
    exact Table.look_modify_other _ _ _ _ hx.symm
  · obtain ⟨frames, links⟩ := fin.links p
    rw [Sent, links]
    exact ⟨frames, by simp [v, o, State.issuing, State.withSent]⟩
  · have alone := fin.alone (only.front_eq_none rfl)
    have banks : (s.issueRowOpen aged p e row).banks = v.banks :=
      (State.banks_of_bare alone).trans rfl
    rw [unit, banks, fin.arbiter]
    exact ⟨alone, by rw [bank]; rfl⟩
  · have made : SameBut [.links, .queues, .banks, .holds, .arbiter] s v := fun x hx => by
      cases x <;> first | rfl | exact absurd hx (by decide)
    exact (made.mono (by decide)).trans (fin.rest.mono (by decide))

end Sys2Proof.Proofs
end

section
/-! PROOFS. The banks that an issue closes, and the issue of a ROW_CLOSE (R7, R28, R80): O47. -/

namespace Sys2Proof.Machine

/-! ### The bank that closes (R7, R8, R80) -/

/-- The banks after a command that closes its bank or not. -/
def State.banksAfter (s : State) (b : Bank) (closes : Bool) : Table BankEntry 16 :=
  if closes then s.banks.put b ⟨.closed, (s.banks.look b).revokedFrom⟩ else s.banks

theorem State.banksAfter_same (s : State) (b : Bank) (closes : Bool) :
    (s.banksAfter b closes).look b = ⟨if closes then .closed else (s.banks.look b).state, (s.banks.look b).revokedFrom⟩ := by
  cases closes <;> simp [State.banksAfter]

theorem State.banksAfter_other (s : State) (b : Bank) (closes : Bool) (x : Bank) (hx : x ≠ b) :
    (s.banksAfter b closes).look x = s.banks.look x := by
  cases closes <;> simp [State.banksAfter, hx.symm]

/-- Completion once a bank has closed (R80). -/
theorem State.completeDrain_of_closed {s w : State} {b : Bank} {x : BankEntry} (closed : x.state = .closed)
    (banks : w.banks = s.banks.put b x) (drain : w.drain = s.drain) :
    s.drain.onClose (s.restClosed b) w.completeDrain.drain := by
  rw [← drain]
  refine w.completeDrain_onClose _ (State.allClosed_of_closed (b := b) ?_ fun y hy => ?_)
  · rw [banks, Table.look_put_same, closed]
  · rw [banks, Table.look_put_other _ _ _ _ hy.symm]

/-- A command that closes its bank changes that bank, and the drain as a close asks; one that does not changes neither (R8, R80). -/
theorem State.autoClose_eq (s w : State) (b : Bank) (closes : Bool) (banks : w.banks = s.banks) (drain : w.drain = s.drain) :
    ∃ d, (closes = true → s.drain.onClose (s.restClosed b) d) ∧ (closes = false → d = s.drain) ∧
      w.autoClose b closes = { w with banks := s.banksAfter b closes, drain := d } := by
  cases closes with
  | false => exact ⟨s.drain, nofun, fun _ => rfl, by rw [← drain, State.banksAfter, if_neg (by decide), ← banks]; rfl⟩
  | true =>
    have closed : (w.closeBank b).banks = s.banksAfter b true := by rw [State.closeBank, State.modBank, banks]; rfl
    refine ⟨_, fun _ => State.completeDrain_of_closed rfl closed drain, nofun, ?_⟩
    rw [← closed]
    exact (w.closeBank b).completeDrain_eq

/-- A CLOSED bank meets no contention. -/
theorem Contention.of_closed {now tCONT : Nat} {x : BankState} (h : Contention now tCONT .closed x) : x = .closed := by
  cases h
  rfl

/-- Two bank entries are equal part by part. -/
theorem BankEntry.eq_of_parts {x y : BankEntry} (state : x.state = y.state) (record : x.revokedFrom = y.revokedFrom) : x = y := by
  cases x
  cases y
  simp_all

/-- A bank that the request has closed is not changed by what follows the issue. -/
theorem RequestEnd.bank_of_closed {aged : Bool} {p : Port} {b : Bank} {v t : State} (fin : RequestEnd aged p b v t)
    (closed : (v.banks.look b).state = .closed) : t.banks.look b = v.banks.look b := by
  have contention := fin.contention
  rw [closed] at contention
  exact BankEntry.eq_of_parts (contention.of_closed.trans closed.symm) fin.revokedFrom

/-! ### ROW_CLOSE (R7, R28) -/

theorem closeRaises_nodup (f : Profile) (b : Bank) : ((closeRaises f b).map Prod.fst).Nodup := by simp [closeRaises]

/-- The issue of a ROW_CLOSE up to its end. -/
theorem State.issueRowClose_eq (s : State) (aged : Bool) (p : Port) (e : Entry) (front : s.front p e.bank = some e) :
    ∃ holds d, (∀ t : State, t.holds.holds = holds → Raised (closeRaises s.prof e.bank) s t) ∧
      s.drain.onClose (s.restClosed e.bank) d ∧ s.issueRowClose aged p e =
        ((State.evalFront
          { (s.withSent p [⟨s.frameEpoch p, e.tag, .issued⟩]).issuing p e true (.close e.bank) { s.holds with holds := holds }
            (s.banksAfter e.bank true) with drain := d } p e.bank).recordRequest aged p).afterRequest e.bank true := by
  obtain ⟨holds, raised, driven⟩ := s.drive_raises (.close e.bank) (closeRaises s.prof e.bank) (closeRaises_nodup _ _)
  obtain ⟨d, close, -, closed⟩ := s.autoClose_eq (s.drive (.close e.bank) (closeRaises s.prof e.bank)) e.bank true (by simp) (by simp)
  refine ⟨holds, d, raised, close rfl, ?_⟩
  rw [State.autoClose, if_pos rfl] at closed
  simp only [State.issueRowClose, closed]
  rw [State.removeFront_issued front (by simp), driven]
  rfl

/-- ROW_CLOSE_ISSUED carries out the grant of a ROW_CLOSE. -/
theorem exec_rowCloseIssued {s : State} {aged : Bool} {p : Port} {e : Entry}
    (granted : s.grantedRequest = some (aged, p, e)) (kind : e.request = .rowClose) :
    exec .rowCloseIssued s = .next (s.issueRowClose aged p e) := by
  simp only [exec, execRowCloseIssued, granted, kind]

end Sys2Proof.Machine

namespace Sys2Proof.Proofs

open Sys2Proof Sys2Proof.Machine

/-- Settles O47: a CLOSED bank meets no contention in what follows the issue (`RequestEnd`). -/
theorem rowCloseIssued : Obligations.RowCloseIssued := by
  intro s aged p e granted kind awake b
  obtain ⟨-, -, front, -, -⟩ := s.grantedRequest_spec aged p e granted
  obtain ⟨holds, d, raised, onClose, issued⟩ := s.issueRowClose_eq aged p e front
  let v := { (s.withSent p [⟨s.frameEpoch p, e.tag, .issued⟩]).issuing p e true (.close b) { s.holds with holds := holds }
    (s.banksAfter b true) with drain := d }
  have fin := v.afterRequest_end aged p b true (awake.of_rank rfl)
  rw [← issued] at fin
  have unit : (s.issueRowClose aged p e).holds = v.holds := fin.rest .holds (by decide)
  have drain : (s.issueRowClose aged p e).drain = d := fin.rest .drain (by decide)
  have bank : v.banks.look b = ⟨.closed, (s.banks.look b).revokedFrom⟩ := s.banksAfter_same b true
  refine ⟨_, exec_rowCloseIssued granted kind, fin.arbiter, ⟨raised _ (congrArg HoldUnit.holds unit),
    (congrArg HoldUnit.window unit).trans rfl, (congrArg HoldUnit.bursts unit).trans rfl⟩, ?_, fun x hx => ?_, by rw [drain]; exact onClose, ?_,
    fun only => ?_, ?_⟩
  · rw [fin.bank_of_closed (by rw [bank]), bank]
  · rw [fin.others x hx]
    exact s.banksAfter_other b true x hx
  · obtain ⟨frames, links⟩ := fin.links p
    rw [Sent, links]
    exact ⟨frames, by simp [v, State.issuing, State.withSent]⟩
  · have alone := fin.alone (only.front_eq_none rfl)
    have banks : (s.issueRowClose aged p e).banks = v.banks := (State.banks_of_bare alone).trans rfl
    rw [unit, banks, fin.arbiter, drain]
    exact alone
  · have made : SameBut [.links, .queues, .banks, .drain, .holds, .arbiter] s v := fun x hx => by
      cases x <;> first | rfl | exact absurd hx (by decide)
    exact (made.mono (by decide)).trans (fin.rest.mono (by decide))

end Sys2Proof.Proofs
end

section
/-! PROOFS. What the issues of the two column kinds share (R8, R29 to R33, R50). -/

namespace Sys2Proof.Machine

/-! ### Evaluation for the session that holds the bank -/

/-- A request never waits for its own session's lease (R49, R50, R51). -/
theorem evaluate_of_owner (o : Owner) (r : Request) (x : BankEntry) (l : Lease) (held : x.state = .opened l) (own : l.owner = o)
    (contend : Bool) : evaluate o r x ≠ .wait contend := by
  cases r <;> simp only [evaluate, evalRowOpen, evalColumn, evalRowClose, held, own, if_true] <;> try split
  all_goals nofun

/-- Evaluation changes no session. -/
theorem Evaluated.frameEpoch {b : Bank} {s t : State} (h : Evaluated b s t) (p : Port) : t.frameEpoch p = s.frameEpoch p := by
  obtain ⟨frames, links⟩ := h.links p
  simp [State.frameEpoch, State.epoch?, links]

/-- Evaluating the entries of the session that holds the bank changes no bank. -/
theorem State.evalRun_banks_of_owner (p : Port) (b : Bank) (n : Nat) (s : State) (l : Lease)
    (held : (s.banks.look b).state = .opened l) (own : l.owner = ⟨p, s.frameEpoch p⟩) :
    (State.evalRun p b n s).banks = s.banks := by
  induction n generalizing s with
  | zero => rfl
  | succ n ih =>
    unfold State.evalRun
    split
    · rfl
    · rename_i e front
      have named : e.bank = b := by simpa using List.find?_some (p := fun e : Entry => e.bank == b) front
      split
      · rfl
      · rename_i contend waits
        rw [State.outcome, named] at waits
        exact absurd waits (evaluate_of_owner _ _ _ l held own contend)
      · rename_i a _
        have same : (s.answerFront p e a).banks = s.banks := by simp
        rw [ih _ (by rwa [same]) (by rwa [(s.answerFront_evaluated p b e a front).frameEpoch]), same]

/-- The granted column request finds its bank OPEN under its port's session (R50). -/
theorem evalColumn_candidate {o : Owner} {row : Row} {x : BankEntry} (h : evalColumn o row x = .candidate) :
    ∃ l, x.state = .opened l ∧ l.owner = o := by
  unfold evalColumn lostOrNotOwner at h
  split at h
  · split at h <;> cases h
  · rename_i l held
    split at h
    · exact ⟨l, held, ‹_›⟩
    · split at h <;> cases h
  · repeat' split at h
    all_goals cases h

theorem State.mover_of_bare {s t : State} (h : t.bare = s.bare) : t.mover = s.mover :=
  show t.bare.mover = s.bare.mover from congrArg State.mover h

/-! ### The column commands up to their end (R29 to R33) -/

@[simp] theorem State.drive_frameEpoch (s : State) (c : BusCommand) (l : List (HoldId × Nat)) (p : Port) :
    (s.drive c l).frameEpoch p = s.frameEpoch p := by
  simp [State.frameEpoch, State.epoch?]

@[simp] theorem State.drive_prof (s : State) (c : BusCommand) (l : List (HoldId × Nat)) : (s.drive c l).prof = s.prof := by
  simp [State.prof]

theorem readRaises_nodup (f : Profile) (b : Bank) (ac : Bool) : ((readRaises f b ac).map Prod.fst).Nodup := by
  cases ac <;> simp [readRaises]

theorem writeRaises_nodup (f : Profile) (b : Bank) (ac : Bool) : ((writeRaises f b ac).map Prod.fst).Nodup := by
  cases ac <;> simp [writeRaises]

/-- A burst is added in its place by start time (R33). -/
theorem State.addBurst_added (s : State) (b : Burst) : BurstAdded b s (s.addBurst b) := by
  refine ⟨_, _, (List.takeWhile_append_dropWhile (p := fun x : Burst => decide (x.start ≤ b.start))).symm, rfl, fun x hx => ?_,
    fun x hx => ?_⟩
  · simpa using List.mem_takeWhile_imp hx
  · rw [Option.mem_def, ← List.find?_not_eq_head?_dropWhile] at hx
    simpa using List.find?_some hx

/-- What stands when a column command has been driven, its burst recorded, its bank closed or not and its entry gone. -/
def State.columnDriven (s : State) (p : Port) (e : Entry) (ac : Bool) (c : BusCommand) (burst : Burst) (holds : Holds) (d : Drain) :
    State :=
  { s.issuing p e false c { s.holds with holds := holds, bursts := (s.addBurst burst).holds.bursts } (s.banksAfter e.bank ac) with
    drain := d }

theorem State.columnDriven_eq (s : State) (p : Port) (e : Entry) (ac : Bool) (c : BusCommand) (l : List (HoldId × Nat))
    (nodup : (l.map Prod.fst).Nodup) (burst : Burst) (front : s.front p e.bank = some e) :
    ∃ holds d, (∀ t : State, t.holds.holds = holds → Raised l s t) ∧
      (ac = true → s.drain.onClose (s.restClosed e.bank) d) ∧ (ac = false → d = s.drain) ∧
      ((((s.drive c l).addBurst burst).autoClose e.bank ac).removeFront p e.bank e.tag false) =
        s.columnDriven p e ac c burst holds d := by
  obtain ⟨holds, raised, driven⟩ := s.drive_raises c l nodup
  obtain ⟨d, close, stay, closed⟩ := s.autoClose_eq ((s.drive c l).addBurst burst) e.bank ac (by simp) (by simp)
  refine ⟨holds, d, raised, close, stay, ?_⟩
  rw [closed, State.removeFront_issued front (by simp), driven]
  rfl

/-- What the issue of a column command whose data go through `mover` makes of `s`, apart from its holds (R8, R30, R32, R33, R55). -/
structure ColumnIssued (s : State) (aged : Bool) (p : Port) (e : Entry) (ac : Bool) (c : BusCommand) (burst : Burst)
    (mover : DataMover) (t : State) : Prop where
  arbiter : t.arbiter = grantedArbiter aged p c
  window : t.holds.window = s.holds.window
  burst : BurstAdded burst s t
  spaces : (t.mover.ports.look p).spaces = (mover.ports.look p).spaces
  state : (t.banks.look e.bank).state = if ac then .closed else (s.banks.look e.bank).state
  others : ∀ x, x ≠ e.bank → t.banks.look x = s.banks.look x
  revokedFrom : (t.banks.look e.bank).revokedFrom = (s.banks.look e.bank).revokedFrom
  alone : s.onlyFor p e → t.mover = mover ∧ t.bare = State.bare { s with
    queues := s.queues.put p ((s.queues.look p).issued e false)
    banks := t.banks, holds := t.holds, arbiter := t.arbiter, drain := t.drain, mover := mover }
  rest : SameBut [.links, .queues, .banks, .drain, .holds, .arbiter, .mover, .rank, .fault] s t

/-- The banks stay through the end of an issue that has not changed its bank, held by the issuing session (R68). -/
theorem State.afterRequest_banks_of_owner (v : State) (aged : Bool) (p : Port) (b : Bank) (l : Lease) (awake : v.awakeMaster)
    (held : (v.banks.look b).state = .opened l) (own : l.owner = ⟨p, v.frameEpoch p⟩) :
    (((v.evalFront p b).recordRequest aged p).afterRequest b false).banks = v.banks := by
  have quiet : ((v.evalFront p b).recordRequest aged p).awakeMaster :=
    awake.of_rank (v.evalFront_evaluated p b).rank
  have settled : (((v.evalFront p b).recordRequest aged p).afterRequest b false).banks = (v.evalFront p b).banks := by
    rw [State.afterRequest, if_neg (by decide), State.judgeUnanimity_awake _ id quiet]
    simp
  rw [settled]
  exact State.evalRun_banks_of_owner p b _ v l held own

/-- The end of the issue of a column command. -/
theorem State.columnDriven_end (s : State) (aged : Bool) (p : Port) (e : Entry) (ac : Bool) (c : BusCommand) (burst : Burst)
    (holds : Holds) (d : Drain) (mover : DataMover) (l : Lease) (awake : s.awakeMaster)
    (held : (s.banks.look e.bank).state = .opened l) (own : l.owner = ⟨p, s.frameEpoch p⟩) (t : State)
    (issued : t = ((State.evalFront { s.columnDriven p e ac c burst holds d with mover := mover } p e.bank).recordRequest
      aged p).afterRequest e.bank ac) :
    ColumnIssued s aged p e ac c burst mover t ∧ t.holds.holds = holds ∧ t.drain = d := by
  let v := { s.columnDriven p e ac c burst holds d with mover := mover }
  have fin := v.afterRequest_end aged p e.bank ac (awake.of_rank rfl)
  rw [← issued] at fin
  have unit : t.holds = v.holds := fin.rest .holds (by decide)
  have drain : t.drain = d := fin.rest .drain (by decide)
  have bank : v.banks.look e.bank = ⟨if ac then .closed else (s.banks.look e.bank).state, (s.banks.look e.bank).revokedFrom⟩ :=
    s.banksAfter_same e.bank ac
  have state : (t.banks.look e.bank).state = (v.banks.look e.bank).state := by
    cases ac with
    | false => rw [issued, v.afterRequest_banks_of_owner aged p e.bank l (awake.of_rank rfl) (by rw [bank]; exact held) own]
    | true => rw [fin.bank_of_closed (by rw [bank]; rfl)]
  refine ⟨{ arbiter := fin.arbiter, window := (congrArg HoldUnit.window unit).trans rfl, burst := ?_, spaces := fin.spaces p, state := ?_,
            others := fun x hx => ?_, revokedFrom := ?_, alone := fun only => ?_, rest := ?_ }, congrArg HoldUnit.holds unit,
    drain⟩
  · obtain ⟨before, after, was, now, earlier, later⟩ := s.addBurst_added burst
    exact ⟨before, after, was, (congrArg HoldUnit.bursts unit).trans now, earlier, later⟩
  · rw [state, bank]
  · rw [fin.others x hx]
    exact s.banksAfter_other e.bank ac x hx
  · rw [fin.revokedFrom, bank]
  · have alone := fin.alone (only.front_eq_none rfl)
    have banks : t.banks = v.banks := (State.banks_of_bare alone).trans rfl
    rw [unit, banks, fin.arbiter, drain]
    exact ⟨State.mover_of_bare alone, alone⟩
  · have made : SameBut [.queues, .banks, .drain, .holds, .arbiter, .mover] s v := fun x hx => by
      cases x <;> first | rfl | exact absurd hx (by decide)
    exact (made.mono (by decide)).trans (fin.rest.mono (by decide))

end Sys2Proof.Machine
end

section
/-! PROOFS. The issues of a COL_READ and of a COL_WRITE (R29 to R32, R150, R151): O45 and O46. -/

namespace Sys2Proof.Machine

/-- A granted column request finds its bank OPEN under its port's session (R50, R53). -/
theorem State.granted_column_owner {s : State} {aged : Bool} {p : Port} {e : Entry} {row : Row}
    (granted : s.grantedRequest = some (aged, p, e))
    (column : ∀ o x, evaluate o e.request x = evalColumn o row x) :
    ∃ l, (s.banks.look e.bank).state = .opened l ∧ l.owner = ⟨p, s.frameEpoch p⟩ := by
  obtain ⟨-, -, -, candidate, -⟩ := s.grantedRequest_spec aged p e granted
  rw [State.outcome, column] at candidate
  exact evalColumn_candidate candidate

/-! ### COL_READ (R29, R30, R151) -/

/-- A granted COL_READ finds a space FREE (R53, R151). -/
theorem State.granted_read_space {s : State} {aged : Bool} {p : Port} {e : Entry} {row : Row} {column : Column} {ac : Bool}
    (granted : s.grantedRequest = some (aged, p, e)) (kind : e.request = .colRead row column ac) :
    ∃ i, s.freeSpace p = some i ∧ (s.mover.ports.look p).spaces.look i = .free := by
  have free (x : ReadSpace) : x.inUse = false ↔ x = .free := by cases x <;> simp [ReadSpace.inUse]
  obtain ⟨-, -, -, -, met⟩ := s.grantedRequest_spec aged p e granted
  have room : ¬4 ≤ s.spacesInUse p := by
    intro full
    simp only [State.unmet, kind, full, if_true] at met
    repeat' split at met
    all_goals cases met
  obtain ⟨i, hi⟩ := (s.spacesInUse_lt_iff p).mp room
  cases found : s.freeSpace p with
  | none =>
    have used := List.find?_eq_none.mp found i (mem_allSpaces i)
    simp [hi, ReadSpace.inUse] at used
  | some j => exact ⟨j, rfl, (free _).mp (by simpa using List.find?_some found)⟩

/-- The Data Mover with a space of a port taken for a read (R151). -/
def State.spaceTaken (s : State) (p : Port) (i : Fin 4) (tag : Byte) : DataMover :=
  { s.mover with ports := s.mover.ports.modify p fun m => { m with spaces := m.spaces.put i (.awaiting tag (s.frameEpoch p)) } }

/-- The issue of a COL_READ up to its end. -/
theorem State.issueColRead_eq (s : State) (aged : Bool) (p : Port) (e : Entry) (column : Column) (ac : Bool) (i : Fin 4)
    (front : s.front p e.bank = some e) (space : s.freeSpace p = some i) :
    ∃ holds d, (∀ t : State, t.holds.holds = holds → Raised (readRaises s.prof e.bank ac) s t) ∧
      (ac = true → s.drain.onClose (s.restClosed e.bank) d) ∧ (ac = false → d = s.drain) ∧
      s.issueColRead aged p e column ac =
        ((State.evalFront { s.columnDriven p e ac (.readColumn e.bank column ac)
          ⟨.read, p, s.frameEpoch p, e.tag, s.time + s.prof.readDelay, false⟩ holds d with mover := s.spaceTaken p i e.tag }
          p e.bank).recordRequest aged p).afterRequest e.bank ac := by
  obtain ⟨holds, d, raised, close, stay, driven⟩ := s.columnDriven_eq p e ac (.readColumn e.bank column ac)
    (readRaises s.prof e.bank ac) (readRaises_nodup _ _ _) ⟨.read, p, s.frameEpoch p, e.tag, s.time + s.prof.readDelay, false⟩ front
  refine ⟨holds, d, raised, close, stay, ?_⟩
  have taken (w : State) (same : w.mover = s.mover) (epoch : w.frameEpoch p = s.frameEpoch p) :
      w.takeSpace p e.tag = { w with mover := s.spaceTaken p i e.tag } := by
    have found : w.freeSpace p = some i := by rw [← space, State.freeSpace, State.freeSpace, same]
    simp only [State.takeSpace, found]
    rw [State.setSpace, State.modMover, same, epoch]
    rfl
  have time : (s.drive (.readColumn e.bank column ac) (readRaises s.prof e.bank ac)).time = s.time := by simp
  simp only [State.issueColRead, State.drive_frameEpoch, State.drive_prof, time, driven]
  rw [taken] <;> rfl

/-- COL_READ_ISSUED carries out the grant of a COL_READ. -/
theorem exec_colReadIssued {s : State} {aged : Bool} {p : Port} {e : Entry} {row : Row} {column : Column} {ac : Bool}
    (granted : s.grantedRequest = some (aged, p, e)) (kind : e.request = .colRead row column ac) :
    exec .colReadIssued s = .next (s.issueColRead aged p e column ac) := by
  simp only [exec, execColReadIssued, granted, kind]

/-! ### COL_WRITE (R31, R32, R150) -/

/-- The Data Mover with a slot of a port issued (R150). -/
def State.slotIssued (s : State) (p : Port) (slot : Fin 8) : DataMover :=
  { s.mover with ports := s.mover.ports.modify p fun m => { m with slots := m.slots.modify slot WriteSlot.issue } }

/-- The issue of a COL_WRITE up to its end. -/
theorem State.issueColWrite_eq (s : State) (aged : Bool) (p : Port) (e : Entry) (column : Column) (ac : Bool) (slot : Fin 8)
    (front : s.front p e.bank = some e) :
    ∃ holds d, (∀ t : State, t.holds.holds = holds → Raised (writeRaises s.prof e.bank ac) s t) ∧
      (ac = true → s.drain.onClose (s.restClosed e.bank) d) ∧ (ac = false → d = s.drain) ∧
      s.issueColWrite aged p e column ac slot =
        ((State.evalFront { s.columnDriven p e ac (.writeColumn e.bank column ac)
          ⟨.write, p, s.frameEpoch p, e.tag, s.time + s.prof.writeDelay, false⟩ holds d with mover := s.slotIssued p slot }
          p e.bank).recordRequest aged p).afterRequest e.bank ac := by
  obtain ⟨holds, d, raised, close, stay, driven⟩ := s.columnDriven_eq p e ac (.writeColumn e.bank column ac)
    (writeRaises s.prof e.bank ac) (writeRaises_nodup _ _ _) ⟨.write, p, s.frameEpoch p, e.tag, s.time + s.prof.writeDelay, false⟩
    front
  refine ⟨holds, d, raised, close, stay, ?_⟩
  have time : (s.drive (.writeColumn e.bank column ac) (writeRaises s.prof e.bank ac)).time = s.time := by simp
  simp only [State.issueColWrite, State.drive_frameEpoch, State.drive_prof, time, driven]
  rfl

/-- COL_WRITE_ISSUED carries out the grant of a COL_WRITE. -/
theorem exec_colWriteIssued {s : State} {aged : Bool} {p : Port} {e : Entry} {row : Row} {column : Column} {ac : Bool}
    {slot : Fin 8} (granted : s.grantedRequest = some (aged, p, e)) (kind : e.request = .colWrite row column ac slot) :
    exec .colWriteIssued s = .next (s.issueColWrite aged p e column ac slot) := by
  simp only [exec, execColWriteIssued, granted, kind]

end Sys2Proof.Machine

namespace Sys2Proof.Proofs

open Sys2Proof Sys2Proof.Machine

/-- Settles O45: what every column command does (`ColumnIssued`), with a FREE space taken. -/
theorem colReadIssued : Obligations.ColReadIssued := by
  intro s aged p e row column ac granted kind awake b f
  obtain ⟨-, -, front, -, -⟩ := s.grantedRequest_spec aged p e granted
  obtain ⟨i, space, free⟩ := State.granted_read_space granted kind
  obtain ⟨l, held, own⟩ := State.granted_column_owner (row := row) granted fun o x => by rw [kind]; rfl
  obtain ⟨holds, d, raised, close, stay, issued⟩ := s.issueColRead_eq aged p e column ac i front space
  obtain ⟨col, unit, drain⟩ := s.columnDriven_end aged p e ac _ _ holds d (s.spaceTaken p i e.tag) l awake held own _ issued
  have port : (s.spaceTaken p i e.tag).ports.look p = { s.mover.ports.look p with
      spaces := (s.mover.ports.look p).spaces.put i (.awaiting e.tag (s.frameEpoch p)) } := Table.look_modify_same _ _ _
  refine ⟨_, exec_colReadIssued granted kind, col.arbiter, raised _ unit, col.window, col.burst, ⟨i, free, ?_⟩, col.state, col.others,
    col.revokedFrom, fun ac => by rw [drain]; exact close ac, fun ac => by rw [drain]; exact stay ac, fun only => ?_, col.rest⟩
  · rw [col.spaces, port]
  · obtain ⟨mover, alone⟩ := col.alone only
    rw [mover, port]
    exact ⟨rfl, alone⟩

/-- Settles O46: what every column command does (`ColumnIssued`), with the entry's slot ISSUED. -/
theorem colWriteIssued : Obligations.ColWriteIssued := by
  intro s aged p e row column ac slot tag epoch data granted kind slotHeld awake b f
  obtain ⟨-, -, front, -, -⟩ := s.grantedRequest_spec aged p e granted
  obtain ⟨l, held, own⟩ := State.granted_column_owner (row := row) granted fun o x => by rw [kind]; rfl
  obtain ⟨holds, d, raised, close, stay, issued⟩ := s.issueColWrite_eq aged p e column ac slot front
  obtain ⟨col, unit, drain⟩ := s.columnDriven_end aged p e ac _ _ holds d (s.slotIssued p slot) l awake held own _ issued
  have slotted : s.slotIssued p slot = { s.mover with ports := s.mover.ports.put p { s.mover.ports.look p with
      slots := (s.mover.ports.look p).slots.put slot (.issued tag epoch data) } } := by
    rw [State.slotIssued, Table.modify, Table.modify, slotHeld]
    rfl
  refine ⟨_, exec_colWriteIssued granted kind, col.arbiter, raised _ unit, col.window, col.burst, col.state, col.others,
    col.revokedFrom, fun ac => by rw [drain]; exact close ac, fun ac => by rw [drain]; exact stay ac, fun only => ?_, col.rest⟩
  obtain ⟨mover, alone⟩ := col.alone only
  rw [slotted] at alone
  rw [mover, slotted, Table.look_put_same]
  exact ⟨rfl, rfl, alone⟩

end Sys2Proof.Proofs
end

section
/-! PROOFS. The taking back of a lease: its expiry (R15, R17), and the close that ends a revocation (R19, R86): O38 and O48. -/

namespace Sys2Proof.Machine

/-! ### Records and counters -/

/-- A record handed over leaves the counters, and does not depend on them (R165, R169). -/
theorem FaultUnit.hand_counters (f : FaultUnit) (ports : Table PortCounters 4) (rank : RankCounters) (r : FaultRecord) :
    FaultUnit.hand { f with ports := ports, rank := rank } r = { f.hand r with ports := ports, rank := rank } := by
  unfold FaultUnit.hand
  by_cases room : f.list.length < 16
  · rw [if_pos room, if_pos room]
    rfl
  · rw [if_neg room, if_neg room]

/-! ### The end of a happening that takes a bank from its owner -/

/-- Evaluation, unanimity and assessment with a master awake are an evaluation and an assessment (R48, R54, R128). -/
theorem State.reevaluate_end (v old : State) (b : Bank) (awake : v.awakeMaster) :
    ((v.reevaluate b).judgeRemoval old).settle = (v.reevaluate b).settle := by
  rw [State.judgeRemoval_awake _ old (awake.of_rank (v.reevaluate_evaluated b).rank)]

/-- What an evaluation and an assessment leave of `v` (R48, R54). -/
theorem Evaluated.settle_rest {b : Bank} {v u : State} (h : Evaluated b v u) :
    SameBut [.links, .queues, .banks, .mover, .rank, .fault] v u.settle :=
  (h.rest.mono (by decide)).trans (u.settle_sameBut.mono (by decide))

/-- What contention can make of a REVOKING bank (R11): its mark. -/
theorem Contention.of_revoking {now tCONT : Nat} {r : Revocation} {x : BankState} (h : Contention now tCONT (.revoking r) x) :
    ∃ r', x = .revoking r' ∧ r'.row = r.row ∧ r'.owner = r.owner ∧ r'.reason = r.reason ∧
      (r.contended = true → r'.contended = true) := by
  cases h with
  | same => exact ⟨r, rfl, rfl, rfl, rfl, fun h => h⟩
  | marked => exact ⟨_, rfl, rfl, rfl, rfl, fun _ => rfl⟩

/-! ### LEASE_EXPIRY (R15, R17) -/

/-- LEASE_EXPIRY of a lease whose deadline is reached takes it back. -/
theorem exec_leaseExpiry {s : State} {b : Bank} {l : Lease} (held : (s.banks.look b).state = .opened l) (due : l.deadline ≤ s.time) :
    exec (.leaseExpiry b) s = .next (s.expireLease b l) := by
  have reached : s.expiryDue b = true := by simp [State.expiryDue, held, BankState.lease?, State.reached, due]
  simp only [exec, execLeaseExpiry, held, reached, if_true]

/-- An OPEN bank revoked, its revocation counted (R17). -/
theorem State.revoke_opened (s : State) (b : Bank) (reason : RevokeReason) (l : Lease) (held : (s.banks.look b).state = .opened l) :
    s.revoke b reason = { s with
      banks := s.banks.put b { s.banks.look b with state := .revoking ⟨l.row, l.owner, l.contended, reason⟩ }
      fault := { s.fault with
        ports := s.fault.ports.modify l.owner.port fun c => { c with revocations := c.revocations + 1 }
        rank := { s.fault.rank with revocations := s.fault.rank.revocations + 1 } } } := by
  simp only [State.revoke, held]
  rfl

/-! ### REVOCATION_CLOSE (R19, R28, R80, R86) -/

/-- The reasons that leave a revoked-from record (R19). -/
theorem RevokeReason.leavesRecord_iff {x : RevokeReason} : x.leavesRecord = true ↔ x = .expired ∨ x = .drain ∨ x = .stop := by
  cases x <;> simp [RevokeReason.leavesRecord]

/-- REVOKED goes to the owner whose session is current, and to no one else (R19). -/
theorem State.tellRevoked_eq (s w : State) (b : Bank) (r : Revocation) (links : w.links = s.links) :
    ∃ told, (s.epoch? r.owner.port = some r.owner.epoch → (told.look r.owner.port).outbound =
        (s.links.look r.owner.port).outbound ++ [⟨r.owner.epoch, 0, .revoked b r.reason⟩]) ∧
      (told.look r.owner.port).session = (s.links.look r.owner.port).session ∧
      (if w.isCurrent r.owner.port r.owner.epoch then w.notice r.owner.port (.revoked b r.reason) else w) =
        { w with links := told } := by
  have epoch : w.epoch? r.owner.port = s.epoch? r.owner.port := by rw [State.epoch?, links]; rfl
  by_cases current : w.isCurrent r.owner.port r.owner.epoch = true
  · have owner : w.frameEpoch r.owner.port = r.owner.epoch := by
      simp only [State.isCurrent, beq_iff_eq] at current
      rw [State.frameEpoch, current, Option.getD_some]
    refine ⟨(w.notice r.owner.port (.revoked b r.reason)).links, fun _ => ?_, ?_, by rw [if_pos current]; rfl⟩
    · simp [State.notice, State.send, State.modLink, links, owner]
    · simp [State.notice, State.send, State.modLink, links]
  · refine ⟨s.links, fun is => absurd ?_ current, rfl, by rw [if_neg current, ← links]⟩
    simp [State.isCurrent, epoch, is]

/-- A session that owns no bank (R86). -/
theorem State.ownsAny_eq_false {s : State} {o : Owner} : s.ownsAny o = false ↔ ∀ x, (s.banks.look x).state.owner? ≠ some o := by
  simp [State.ownsAny, State.owns, mem_allBanks]

/-- The report of a revocation close to a LEAVING session that now owns nothing (R86, R142). -/
theorem State.reportLeave_eq (s : State) (o : Owner) : ∃ session, s.reportLeave o =
      { s with links := s.links.put o.port { s.links.look o.port with session := session } } ∧
    ∀ tag report, (s.links.look o.port).session = .leaving o.epoch tag true report → s.ownsAny o = false →
      session = .leaving o.epoch tag true true := by
  by_cases due : (∃ tag report, (s.links.look o.port).session = .leaving o.epoch tag true report) ∧ s.ownsAny o = false
  · obtain ⟨⟨tag, report, leaving⟩, none⟩ := due
    refine ⟨.leaving o.epoch tag true true, ?_, fun tag' report' leaving' _ => ?_⟩
    · simp only [State.reportLeave, leaving, none, and_self, if_true]
      rfl
    · cases leaving.symm.trans leaving'
      rfl
  · refine ⟨(s.links.look o.port).session, ?_, fun tag report leaving none => absurd ⟨⟨tag, report, leaving⟩, none⟩ due⟩
    have same : s.reportLeave o = s := by
      unfold State.reportLeave
      split
      · rename_i e tag report leaving
        refine if_neg fun both => due ⟨⟨tag, report, ?_⟩, both.2⟩
        rw [leaving, both.1]
      all_goals rfl
    rw [same]
    exact congrArg (fun l => { s with links := l }) (Table.put_look s.links o.port).symm

/-- The issue of a revocation close up to the evaluation of the entries for its bank. -/
theorem State.issueRevocation_eq (s : State) (b : Bank) (r : Revocation) :
    ∃ holds d links, (∀ t : State, t.holds.holds = holds → Raised (closeRaises s.prof b) s t) ∧
      s.drain.onClose (s.restClosed b) d ∧
      (s.epoch? r.owner.port = some r.owner.epoch → (links.look r.owner.port).outbound =
        (s.links.look r.owner.port).outbound ++ [⟨r.owner.epoch, 0, .revoked b r.reason⟩]) ∧
      (∀ tag report, (s.links.look r.owner.port).session = .leaving r.owner.epoch tag true report →
        (∀ x, x ≠ b → (s.banks.look x).state.owner? ≠ some r.owner) →
        (links.look r.owner.port).session = .leaving r.owner.epoch tag true true) ∧
      s.issueRevocation b r = ((State.reevaluate { s with
        links := links, banks := s.banks.put b ((s.banks.look b).closeRevoked r), drain := d
        holds := { s.holds with holds := holds }
        arbiter := { s.arbiter with lastGrant := .revocationClose, commandBus := some (.close b) } } b).judgeRemoval s).settle := by
  obtain ⟨holds, raised, driven⟩ := s.drive_raises (.close b) (closeRaises s.prof b) (closeRaises_nodup _ _)
  obtain ⟨told, outbound, session, noticed⟩ := s.tellRevoked_eq (s.drive (.close b) (closeRaises s.prof b)) b r (by simp)
  let w := { s with
    links := told, banks := s.banks.put b ((s.banks.look b).closeRevoked r), holds := { s.holds with holds := holds }
    arbiter := { s.arbiter with commandBus := some (.close b) } }
  obtain ⟨left, reported, leaves⟩ := { w with drain := w.completeDrain.drain }.reportLeave_eq r.owner
  refine ⟨holds, w.completeDrain.drain, told.put r.owner.port { told.look r.owner.port with session := left }, raised,
    State.completeDrain_of_closed rfl rfl rfl, fun current => ?_, fun tag report leaving rest => ?_, ?_⟩
  · rw [Table.look_put_same]
    exact outbound current
  · rw [Table.look_put_same]
    refine leaves tag report (session.trans leaving) (State.ownsAny_eq_false.mpr fun x => ?_)
    by_cases hx : x = b
    · simp [w, hx, BankEntry.closeRevoked, BankState.owner?]
    · simpa [w, Ne.symm hx] using rest x hx
  · simp only [State.issueRevocation, noticed]
    rw [driven]
    change ((((w.completeDrain.reportLeave r.owner).recordRevocation).reevaluate b).judgeRemoval s).settle = _
    rw [w.completeDrain_eq, reported]
    rfl

/-- REVOCATION_CLOSE_ISSUED carries out the grant of a revocation close. -/
theorem exec_revocationCloseIssued {s : State} {b : Bank} {r : Revocation} (granted : s.grantedRevocation = some b)
    (revoking : (s.banks.look b).state = .revoking r) : exec .revocationCloseIssued s = .next (s.issueRevocation b r) := by
  simp only [exec, execRevocationCloseIssued, granted, revoking]

end Sys2Proof.Machine

namespace Sys2Proof.Proofs

open Sys2Proof Sys2Proof.Machine

/-- Settles O38: the revocation and its record, then an evaluation, which leaves of a REVOKING bank all but its contention. -/
theorem leaseExpiryRevokes : Obligations.LeaseExpiryRevokes := by
  intro s b l held due awake f
  let v := (s.revoke b .expired).handFault .leaseExpired (some l.owner.port) (some b) (.extensions l.extensions)
  have revoked : v = { s with
      banks := s.banks.put b { s.banks.look b with state := .revoking ⟨l.row, l.owner, l.contended, .expired⟩ }
      fault := { f with
        ports := s.fault.ports.modify l.owner.port fun c => { c with revocations := c.revocations + 1 }
        rank := { s.fault.rank with revocations := s.fault.rank.revocations + 1 } } } := by
    simp only [v, s.revoke_opened b .expired l held, State.handFault, FaultUnit.hand_counters]
    rfl
  have bank : v.banks.look b = ⟨.revoking ⟨l.row, l.owner, l.contended, .expired⟩, (s.banks.look b).revokedFrom⟩ := by
    rw [revoked, Table.look_put_same]
  have made : SameBut [.banks, .fault] s v := by
    rw [revoked]
    intro x hx
    cases x <;> first | rfl | exact absurd hx (by decide)
  have evaluated := v.reevaluate_evaluated b
  have ended : s.expireLease b l = (v.reevaluate b).settle := v.reevaluate_end s b (awake.of_rank (by rw [revoked]))
  obtain ⟨-, -, -, banks, -, -, -, -, -, -, -, fault, -⟩ := State.settle_frame (v.reevaluate b)
  have record := fault.trans evaluated.fault
  refine ⟨_, (exec_leaseExpiry held due).trans (congrArg _ ended), ?_, ?_, fun x hx => ?_, ?_, ?_, ?_, ?_, ?_, fun q => ?_, ?_⟩
  · have contention := evaluated.contention
    rw [bank] at contention
    rw [banks]
    exact contention.of_revoking
  · rw [banks, evaluated.revokedFrom, bank]
  · rw [banks, evaluated.others x hx, revoked]
    exact Table.look_put_other _ _ _ _ hx.symm
  · rw [record, revoked]
  · rw [record, revoked]
  · rw [record, revoked]
  · rw [record, revoked]
  · rw [record, revoked]
  · rw [fault, evaluated.counters q, revoked]
    simp only [Table.look_modify]
    by_cases owner : q = l.owner.port
    · simp [owner]
    · simp [owner, Ne.symm owner]
  · exact (made.mono (by decide)).trans evaluated.settle_rest

/-- Settles O48: the close, the notice and the report, then an evaluation, which a CLOSED bank does not feel. -/
theorem revocationCloseIssued : Obligations.RevocationCloseIssued := by
  intro s b r granted revoking awake records
  obtain ⟨holds, d, links, raised, close, outbound, leaves, issued⟩ := s.issueRevocation_eq b r
  let v := { s with
    links := links, banks := s.banks.put b ((s.banks.look b).closeRevoked r), drain := d, holds := { s.holds with holds := holds }
    arbiter := { s.arbiter with lastGrant := .revocationClose, commandBus := some (.close b) } }
  rw [v.reevaluate_end s b (awake.of_rank rfl)] at issued
  have evaluated := v.reevaluate_evaluated b
  have bank : v.banks.look b = (s.banks.look b).closeRevoked r := Table.look_put_same _ _ _
  obtain ⟨-, sent, -, banks, -⟩ := State.settle_frame (v.reevaluate b)
  have rest := evaluated.settle_rest
  have unit : (v.reevaluate b).settle.holds = v.holds := rest .holds (by decide)
  have drain : (v.reevaluate b).settle.drain = d := rest .drain (by decide)
  have made : SameBut [.links, .banks, .drain, .holds, .arbiter] s v := fun x hx => by
    cases x <;> first | rfl | exact absurd hx (by decide)
  have record : (v.reevaluate b).settle.banks.look b = (s.banks.look b).closeRevoked r := by
    have contention := evaluated.contention
    rw [bank] at contention
    rw [banks, ← bank]
    exact BankEntry.eq_of_parts (by rw [contention.of_closed, bank]; rfl) evaluated.revokedFrom
  obtain ⟨frames, link⟩ := evaluated.links r.owner.port
  refine ⟨_, (exec_revocationCloseIssued granted revoking).trans (congrArg _ issued), rest .arbiter (by decide),
    ⟨raised _ (congrArg HoldUnit.holds unit), (congrArg HoldUnit.window unit).trans rfl, (congrArg HoldUnit.bursts unit).trans rfl⟩,
    by rw [record]; rfl, fun recorded => ?_, fun unrecorded => ?_, fun x hx => ?_, by rw [drain]; exact close, fun current => ?_,
    fun tag report leaving none => ?_, (made.mono (by decide)).trans (rest.mono (by decide))⟩
  · rw [record, BankEntry.closeRevoked, if_pos (RevokeReason.leavesRecord_iff.mpr recorded)]
  · rw [record, BankEntry.closeRevoked, if_neg (mt RevokeReason.leavesRecord_iff.mp unrecorded)]
  · rw [banks, evaluated.others x hx]
    exact Table.look_put_other _ _ _ _ hx.symm
  · rw [Sent, sent, link, ← outbound current]
    exact ⟨frames, rfl⟩
  · rw [sent, link]
    exact leaves tag report leaving none

end Sys2Proof.Proofs
end

section
/-! PROOFS. What each shared operation can make of a bank's state (R2, R11, R17, R79, R85, R86). -/

namespace Sys2Proof.Machine

/-! ### The moves of a bank -/

/-- What can become of a bank's state where no row is opened or closed (R2): a lease keeps its row and owner, a revocation keeps
them with its contended flag and its reason too, unless another is decided; `may` says for which owners and reasons one is. -/
inductive Moves (may : Owner → RevokeReason → Prop) : BankState → BankState → Prop where
  | closed : Moves may .closed .closed
  | opened (l l' : Lease) (row : l'.row = l.row) (owner : l'.owner = l.owner)
      (contended : l.contended = true → l'.contended = true) : Moves may (.opened l) (.opened l')
  | revoked (l : Lease) (r : Revocation) (row : r.row = l.row) (owner : r.owner = l.owner)
      (contended : l.contended = true → r.contended = true) (reason : may l.owner r.reason) : Moves may (.opened l) (.revoking r)
  | revoking (r r' : Revocation) (row : r'.row = r.row) (owner : r'.owner = r.owner)
      (contended : r.contended = true → r'.contended = true) (reason : r'.reason = r.reason ∨ may r.owner r'.reason) :
      Moves may (.revoking r) (.revoking r')

theorem Moves.refl {may : Owner → RevokeReason → Prop} (x : BankState) : Moves may x x := by
  cases x with
  | closed => exact .closed
  | opened l => exact .opened l l rfl rfl fun h => h
  | revoking r => exact .revoking r r rfl rfl (fun h => h) (.inl rfl)

theorem Moves.trans {may : Owner → RevokeReason → Prop} {x y z : BankState} (h : Moves may x y) (g : Moves may y z) :
    Moves may x z := by
  cases h with
  | closed => exact g
  | opened l l' row owner contended =>
    cases g with
    | opened _ l'' row' owner' contended' =>
      exact .opened l l'' (row'.trans row) (owner'.trans owner) (contended' ∘ contended)
    | revoked _ r row' owner' contended' reason =>
      exact .revoked l r (row'.trans row) (owner'.trans owner) (contended' ∘ contended) (owner ▸ reason)
  | revoked l r row owner contended reason =>
    cases g with
    | revoking _ r' row' owner' contended' reason' =>
      refine .revoked l r' (row'.trans row) (owner'.trans owner) (contended' ∘ contended) ?_
      rcases reason' with same | other
      · exact same ▸ reason
      · exact owner ▸ other
  | revoking r r' row owner contended reason =>
    cases g with
    | revoking _ r'' row' owner' contended' reason' =>
      refine .revoking r r'' (row'.trans row) (owner'.trans owner) (contended' ∘ contended) ?_
      rcases reason' with same | other
      · rw [same]
        exact reason
      · exact .inr (owner ▸ other)

/-- Contention is a move (R11). -/
theorem Contention.moves {now tCONT : Nat} {x y : BankState} (h : Contention now tCONT x y) (may : Owner → RevokeReason → Prop) :
    Moves may x y := by
  cases h with
  | same => exact .refl _
  | capped l l' _ row owner _ _ contended _ => exact .opened l l' row owner fun _ => contended
  | marked r => exact .revoking r _ rfl rfl (fun _ => rfl) (.inl rfl)

/-- The revocations accounted for: those of `why`, and with tGR equal to 0 those of a grace end, which then falls at the start of its
drain (R75, R79). -/
def Accounted (why : Bank → Owner → RevokeReason → Prop) (tGR : Nat) (b : Bank) (o : Owner) (r : RevokeReason) : Prop :=
  why b o r ∨ ((r = .drain ∨ r = .stop) ∧ tGR = 0)

/-- A revocation for another reason than a grace end's is one of `why`. -/
theorem Accounted.own {why : Bank → Owner → RevokeReason → Prop} {tGR : Nat} {b : Bank} {o : Owner} {r : RevokeReason}
    (h : Accounted why tGR b o r) (other : ¬(r = .drain ∨ r = .stop)) : why b o r :=
  h.resolve_right fun grace => other grace.1

/-- Every bank moves, for the revocations accounted for, under the profile that stands. -/
structure BankMoves (why : Bank → Owner → RevokeReason → Prop) (s t : State) : Prop where
  profile : t.profile = s.profile
  banks : ∀ b, Moves (Accounted why s.prof.tGR b) (s.banks.look b).state (t.banks.look b).state

theorem BankMoves.of_eq {why : Bank → Owner → RevokeReason → Prop} {s t : State} (banks : t.banks = s.banks)
    (profile : t.profile = s.profile) : BankMoves why s t :=
  ⟨profile, fun b => by rw [banks]; exact .refl _⟩

theorem BankMoves.trans {why : Bank → Owner → RevokeReason → Prop} {s t u : State} (h : BankMoves why s t)
    (g : BankMoves why t u) : BankMoves why s u := by
  refine ⟨g.profile.trans h.profile, fun b => (h.banks b).trans ?_⟩
  have same : s.prof = t.prof := by rw [State.prof, State.prof, h.profile]
  rw [same]
  exact g.banks b

/-- Moves, and then nothing that a bank feels. -/
theorem BankMoves.trans_eq {why : Bank → Owner → RevokeReason → Prop} {s t u : State} (h : BankMoves why s t)
    (banks : u.banks = t.banks) (profile : u.profile = t.profile) : BankMoves why s u :=
  h.trans (.of_eq banks profile)

theorem BankMoves.ite {why : Bank → Owner → RevokeReason → Prop} {s t u : State} {P : Prop} [Decidable P] (h : BankMoves why s t)
    (g : BankMoves why s u) : BankMoves why s (if P then t else u) := by
  split
  · exact h
  · exact g

/-- A fold of moves. -/
theorem BankMoves.foldl {ι : Type} {why : Bank → Owner → RevokeReason → Prop} (f : State → ι → State) (s : State)
    (h : ∀ v i, v.profile = s.profile → BankMoves why v (f v i)) (l : List ι) : BankMoves why s (l.foldl f s) := by
  suffices all : ∀ v : State, v.profile = s.profile → BankMoves why v (l.foldl f v) from all s rfl
  induction l with
  | nil => exact fun v _ => .of_eq rfl rfl
  | cons i l ih =>
    intro v hv
    have first := h v i hv
    exact first.trans (ih _ (first.profile.trans hv))

theorem Evaluated.bankMoves {b : Bank} {s t : State} (h : Evaluated b s t) (why : Bank → Owner → RevokeReason → Prop) :
    BankMoves why s t := by
  refine ⟨h.rest .profile (by decide), fun x => ?_⟩
  by_cases hx : x = b
  · subst hx
    exact h.contention.moves _
  · rw [h.others x hx]
    exact .refl _

/-! ### Revocations (R17, R79, R85, R86) -/

/-- A revocation decided for a bank (R17). -/
theorem State.revoke_moves {why : Bank → Owner → RevokeReason → Prop} (s : State) (b : Bank) (reason : RevokeReason)
    (h : ∀ o, (s.banks.look b).state.owner? = some o → Accounted why s.prof.tGR b o reason) :
    BankMoves why s (s.revoke b reason) := by
  refine ⟨by simp, fun x => ?_⟩
  cases hs : (s.banks.look b).state with
  | closed =>
    simp only [State.revoke, hs]
    exact .refl _
  | opened l =>
    rw [s.revoke_opened b reason l hs]
    by_cases hx : b = x
    · subst hx
      rw [Table.look_put_same, hs]
      exact .revoked l _ rfl rfl (fun h => h) (h l.owner (by rw [hs]; rfl))
    · rw [Table.look_put_other _ _ _ _ hx]
      exact .refl _
  | revoking r =>
    simp only [State.revoke, hs]
    split
    · by_cases hx : b = x
      · subst hx
        rw [State.modBank, Table.look_modify_same, hs]
        exact .revoking r _ rfl rfl (fun h => h) (.inr (h r.owner (by rw [hs]; rfl)))
      · rw [State.modBank, Table.look_modify_other _ _ _ _ hx]
        exact .refl _
    · exact .refl _

/-- A bank of an ended or leaving session (R85, R86). -/
theorem State.revokeOwned_moves {why : Bank → Owner → RevokeReason → Prop} (s : State) (o : Owner) (reason : RevokeReason) (b : Bank)
    (h : why b o reason) : BankMoves why s (s.revokeOwned o reason b) := by
  unfold State.revokeOwned
  split
  · rename_i owns
    have owner : (s.banks.look b).state.owner? = some o := by simpa [State.owns] using owns
    refine (s.revoke_moves b reason fun o' ho' => ?_).trans ((State.reevaluate_evaluated _ b).bankMoves why)
    cases owner.symm.trans ho'
    exact .inl h
  · exact .of_eq rfl rfl

/-- A grace end (R79), where it is accounted for. -/
theorem State.endGrace_moves {why : Bank → Owner → RevokeReason → Prop} (s : State)
    (h : ∀ b o r, (r = .drain ∨ r = .stop) → Accounted why s.prof.tGR b o r) : BankMoves why s s.endGrace := by
  have reason : s.drain.reason = .drain ∨ s.drain.reason = .stop := by
    unfold Drain.reason
    split
    · exact .inr rfl
    · exact .inl rfl
  have one (v : State) (b : Bank) (same : v.profile = s.profile) : BankMoves why v (v.graceRevoke s.drain.reason b) := by
    unfold State.graceRevoke
    split
    · exact .of_eq rfl rfl
    · have taken : BankMoves why v (v.revoke b s.drain.reason) := v.revoke_moves b _ fun o _ => by
        rw [State.prof, same]
        exact h b o _ reason
      exact (taken.trans_eq (by simp) (by simp)).trans ((State.reevaluate_evaluated _ b).bankMoves why)
    · exact .of_eq rfl rfl
  refine (BankMoves.foldl _ s one allBanks).trans_eq ?_ ?_ <;> simp [State.endGrace]

/-! ### The drain and unanimity (R75 to R83, R128) -/

theorem State.setDrain_endGrace_moves {why : Bank → Owner → RevokeReason → Prop} (s : State) (d : Drain)
    (h : ∀ b o r, (r = .drain ∨ r = .stop) → Accounted why s.prof.tGR b o r) : BankMoves why s (s.setDrain d).endGrace := by
  have set : BankMoves why s (s.setDrain d) := .of_eq (by simp) (by simp)
  exact set.trans ((s.setDrain d).endGrace_moves h)

/-- A drain begun: its grace end, where that comes at once, is one that cuts grace short or has no grace to wait for (R75). -/
theorem State.beginDrain_moves {why : Bank → Owner → RevokeReason → Prop} (s : State) (u : Purpose) (urgent : Bool)
    (h : u.cuts urgent = true → ∀ b o r, (r = .drain ∨ r = .stop) → why b o r) : BankMoves why s (s.beginDrain u urgent) := by
  simp only [State.beginDrain]
  split
  · rename_i atOnce
    refine s.setDrain_endGrace_moves _ fun b o r hr => ?_
    rcases Bool.or_eq_true_iff.mp atOnce with cut | none
    · exact .inl (h cut b o r hr)
    · exact .inr ⟨hr, eq_of_beq none⟩
  · exact .of_eq (by simp) (by simp)

/-- A purpose added, then the happening's other effects (R75, R76, R78). -/
theorem State.addPurpose_moves {why : Bank → Owner → RevokeReason → Prop} (s : State) (u : Purpose) (urgent : Bool)
    (others : State → State) (h : u.cuts urgent = true → ∀ b o r, (r = .drain ∨ r = .stop) → why b o r)
    (ho : ∀ v, BankMoves why v (others v)) : BankMoves why s (s.addPurpose u urgent others) := by
  have added : s.drain.phase ≠ .none → BankMoves why s (s.addPurpose u urgent) := by
    intro active
    cases hp : s.drain.phase with
    | none => exact absurd hp active
    | grace deadline =>
      simp only [State.addPurpose, hp, id_eq]
      split
      · rename_i cut
        have cuts : u.cuts urgent = true := by
          simp only [Bool.or_eq_true, Bool.and_eq_true] at cut
          rcases cut with urgent | ⟨stop, -⟩
          · simp [Purpose.cuts, urgent]
          · simp [Purpose.cuts, stop]
        exact s.setDrain_endGrace_moves _ fun b o r hr => .inl (h cuts b o r hr)
      · exact .of_eq (by simp) (by simp)
    | closing => exact .of_eq (by simp [State.addPurpose, hp]) (by simp)
    | service => exact .of_eq (by simp [State.addPurpose, hp]) (by simp)
  rw [s.addPurpose_others u urgent others]
  split
  · exact ((s.beginDrain_moves u urgent h).trans (ho _)).trans_eq (by simp) (by simp)
  · exact (added ‹_›).trans (ho _)

/-- A judgement of unanimity, with the happening's other effects in between (R76, R128). -/
theorem State.judgeUnanimity_moves {why : Bank → Owner → RevokeReason → Prop} (s : State) (others : State → State)
    (ho : ∀ v, BankMoves why v (others v)) : BankMoves why s (s.judgeUnanimity others) := by
  unfold State.judgeUnanimity
  split
  · split
    · exact ho s
    · have begun : BankMoves why s (s.setBegun true) := .of_eq (by simp) (by simp)
      refine begun.trans ((s.setBegun true).addPurpose_moves .sleep false _ nofun fun v => ?_)
      have wanted : BankMoves why v v.wantExit.judgeIdle := .of_eq (by simp) (by simp)
      exact wanted.trans (ho _)
  · split
    · have withdrawn : BankMoves why s ((s.dropPurpose .sleep).setBegun false).judgeIdle := .of_eq (by simp) (by simp)
      exact withdrawn.trans (ho _)
    · exact ho s

end Sys2Proof.Machine
end

section
/-! PROOFS. The moves of the banks through the operations that the commands share (R44, R75, R102, R121, R128, R139, R143). -/

namespace Sys2Proof.Machine

section
variable {why : Bank → Owner → RevokeReason → Prop}

/-- The end of a happening. -/
theorem BankMoves.settle {s t : State} (h : BankMoves why s t) : BankMoves why s t.settle := h.trans_eq (by simp) (by simp)

theorem BankMoves.judgeUnanimity {s t : State} (h : BankMoves why s t) : BankMoves why s t.judgeUnanimity :=
  h.trans (t.judgeUnanimity_moves id fun _ => .of_eq rfl rfl)

theorem BankMoves.judgeRemoval {s t : State} (h : BankMoves why s t) (old : State) : BankMoves why s (t.judgeRemoval old) :=
  .ite h h.judgeUnanimity

theorem BankMoves.reevaluate {s t : State} (h : BankMoves why s t) (b : Bank) : BankMoves why s (t.reevaluate b) :=
  h.trans ((t.reevaluate_evaluated b).bankMoves why)

theorem BankMoves.evalFront {s t : State} (h : BankMoves why s t) (p : Port) (b : Bank) : BankMoves why s (t.evalFront p b) :=
  h.trans ((t.evalFront_evaluated p b).bankMoves why)

theorem State.afterRequest_moves (s : State) (b : Bank) (changed : Bool) : BankMoves why s (s.afterRequest b changed) := by
  have same : BankMoves why s s := .of_eq rfl rfl
  exact (BankMoves.ite (same.reevaluate b) same).judgeUnanimity.settle

/-! ### Temperature (R101 to R103) -/

theorem State.reportThermal_moves (s : State) : BankMoves why s s.reportThermal := by
  have woken : BankMoves why s (if s.refresh.thermal = .hot then s.wantWake else s) :=
    .ite (.of_eq (by simp) (by simp)) (.of_eq rfl rfl)
  have told : BankMoves why s (if s.refresh.thermal = .hot then s.wantWake else s).judgeHotExit :=
    woken.trans (.of_eq (by simp) (by simp))
  exact told.judgeUnanimity

theorem State.evalThermal_moves (s : State) (c : ThermalCause) (reply : State → State) (h : ∀ v, BankMoves why v (reply v)) :
    BankMoves why s (s.evalThermal c reply) := by
  have changed : BankMoves why s (s.thermalChange s.thermalNext c) := .of_eq (by simp) (by simp)
  exact .ite (h s) ((changed.trans (h _)).trans (State.reportThermal_moves _))

theorem State.takeThot_moves (s : State) (level : Bool) : BankMoves why s (s.takeThot level) := by
  have recorded : BankMoves why s { s with refresh := { s.refresh with thot := level } } := .of_eq rfl rfl
  exact recorded.trans (State.evalThermal_moves _ _ _ fun _ => .of_eq rfl rfl)

/-! ### Rank states and calibration (R108, R119, R121) -/

theorem State.becomeActive_moves (s : State) : BankMoves why s s.becomeActive := by
  have active : BankMoves why s { s.become .active with
      refresh := { (s.become .active).refresh with timer := some ((s.become .active).time + (s.become .active).reload) } } :=
    .of_eq (by simp) (by simp)
  exact active.judgeUnanimity

/-- A STOP carried out cuts grace short (R121, R78). -/
theorem State.carryOutStop_moves (s : State) (h : ∀ b o r, (r = .drain ∨ r = .stop) → why b o r) :
    BankMoves why s s.carryOutStop := by
  unfold State.carryOutStop
  dsimp only
  refine BankMoves.trans (.of_eq ?_ ?_) (State.addPurpose_moves _ .stop false id (fun _ => h) fun _ => .of_eq rfl rfl) <;> simp

theorem State.shortCalibrationDue_moves (s : State) : BankMoves why s s.shortCalibrationDue := by
  have due : BankMoves why s { s with calibration := { s.calibration with shortDue := true } } := .of_eq rfl rfl
  exact .ite (.of_eq rfl rfl) (due.trans (State.addPurpose_moves _ .calibrate false id nofun fun _ => .of_eq rfl rfl))

/-! ### Sessions (R139, R143) -/

/-- The end of a session revokes its banks for its own reason (R85, R86). -/
theorem State.endSession_moves (s : State) (p : Port) (e : Byte) (c : SessionEnd) (h : ∀ b, why b ⟨p, e⟩ c.reason) :
    BankMoves why s (s.endSession p e c) := by
  have forgotten (u : State) : BankMoves why u (u.forget ⟨p, e⟩) := by
    refine ⟨by simp, fun b => ?_⟩
    rw [State.forget, Table.look_map]
    exact .refl _
  have revoked (u : State) : BankMoves why u (allBanks.foldl (State.revokeOwned ⟨p, e⟩ c.reason) u) :=
    .foldl _ u (fun v b _ => v.revokeOwned_moves _ _ b (h b)) _
  unfold State.endSession
  extract_lets o u v w x
  have first : BankMoves why s v := .of_eq (by simp [v, u]) (by simp [v, u])
  have second : BankMoves why s w := (first.trans (forgotten v)).trans (revoked _)
  have third : BankMoves why s (x.setVote p none) := by
    refine second.trans_eq ?_ ?_ <;> simp only [State.setVote_frame, x] <;> split <;> simp
  refine third.trans (State.judgeUnanimity_moves _ _ fun v => ?_)
  have cleared : BankMoves why v { v with refresh := { v.refresh with table := v.refresh.table.put p none } } := .of_eq rfl rfl
  exact cleared.trans (State.evalThermal_moves _ _ _ fun _ => .of_eq rfl rfl)

theorem State.openSession_moves (s : State) (p : Port) (tag : Byte) : BankMoves why s (s.openSession p tag) := by
  unfold State.openSession
  extract_lets e u v w x
  have opened : BankMoves why s x := .of_eq (by simp [x, w, v, u]) (by simp [x, w, v, u])
  exact opened.judgeUnanimity.trans_eq (by simp) (by simp)

/-! ### Requests (R44, R45) -/

theorem State.accept_moves (s : State) (p : Port) (tag : Byte) (b : Bank) (a : Arrival) (slot : Fin 8) :
    BankMoves why s (s.accept p tag b a slot) := by
  unfold State.accept
  extract_lets front u v w x
  have joined : BankMoves why s ((w.setVote p (some .awake)).judgeIdle) := .of_eq (by simp [w, v, u]) (by simp [w, v, u])
  have reported : BankMoves why s x := joined.judgeUnanimity.trans_eq (by simp [x, State.reportArrival]) (by simp [x, State.reportArrival])
  exact .ite (reported.evalFront p b) reported

theorem State.arrive_moves (s : State) (p : Port) (tag bank : Byte) (a : Arrival) : BankMoves why s (s.arrive p tag bank a) := by
  unfold State.arrive
  split
  · exact .of_eq (by simp) (by simp)
  · exact s.accept_moves p tag _ a _

/-- A sound frame: its block's own effects, or none on any bank (R136, R137). -/
theorem State.receive_moves (s : State) (p : Port) (h : Header) (isJoin : Bool) (route : State → State)
    (hr : BankMoves why (s.inSequence p) (route (s.inSequence p))) : BankMoves why s (s.receive p h isJoin route) := by
  have counted : BankMoves why s (s.inSequence p) := .of_eq (by simp) (by simp)
  obtain e | e | ⟨r, e⟩ | e := s.receive_cases p h isJoin route <;> rw [e]
  · exact .of_eq rfl rfl
  · exact .of_eq (by simp) (by simp)
  · exact counted.trans_eq (by simp) (by simp)
  · exact counted.trans hr

end

end Sys2Proof.Machine
end

section
/-! PROOFS. The steps of a bank (the table of R2), and those of the issues (R6 to R8, R19). -/

namespace Sys2Proof

open Machine

/-- The commands in which a grace end can fall: its own, and those that cut grace short (R75, R78, R79, R121). -/
def Instr.cutsGrace (c : Instr) : Prop :=
  c = .graceEnd ∨ c = .intervalTimerExpiry ∨ c = .stop ∨ c = .powerDownExitIssued ∨ c = .wakeEnd

/-- The commands that can take a bank from an owner for a reason of their own (R15, R79, R85, R86). -/
def Instr.revokes (c : Instr) (b : Bank) (o : Owner) : RevokeReason → Prop
  | .expired => c = .leaseExpiry b
  | .portLost => c = .linkDown o.port ∨ ∃ h revision, c = .join o.port h revision
  | .portLeft => c = .readyToLeave o.port ∨ c = .leaveComplete o.port
  | .drain => c.cutsGrace
  | .stop => c.cutsGrace

/-- A command that cuts grace short can take banks for a drain or a STOP (R79). -/
theorem Instr.revokes_of_cut {c : Instr} (h : c.cutsGrace) (b : Bank) (o : Owner) (r : RevokeReason) (hr : r = .drain ∨ r = .stop) :
    c.revokes b o r := by
  rcases hr with rfl | rfl <;> exact h

/-- A drain or a STOP takes banks in a command that cuts grace short, or at once with tGR equal to 0 (R75, R79). -/
theorem Instr.accounted_grace {c : Instr} {tGR : Nat} {b : Bank} {o : Owner} {r : RevokeReason} (hr : r = .drain ∨ r = .stop)
    (h : Accounted c.revokes tGR b o r) : c.cutsGrace ∨ tGR = 0 := by
  rcases h with own | ⟨-, none⟩
  · left
    rcases hr with rfl | rfl <;> exact own
  · exact .inr none

end Sys2Proof

namespace Sys2Proof.Machine

/-- What one command can make of a bank's state: a move, or a row opened, closed by its owner, or closed after a revocation (R2, R6,
R7, R8, R19). -/
inductive BankStep (c : Instr) (may : Owner → RevokeReason → Prop) : BankState → BankState → Prop where
  | moves {x y : BankState} (h : Moves may x y) : BankStep c may x y
  | opens (h : c = .rowOpenIssued) (y : BankState) : BankStep c may .closed y
  | closes (h : c = .rowCloseIssued ∨ c = .colReadIssued ∨ c = .colWriteIssued) (l : Lease) : BankStep c may (.opened l) .closed
  | ends (h : c = .revocationCloseIssued) (r : Revocation) : BankStep c may (.revoking r) .closed

theorem BankStep.trans_moves {c : Instr} {may : Owner → RevokeReason → Prop} {x y z : BankState} (h : BankStep c may x y)
    (g : Moves may y z) : BankStep c may x z := by
  cases h with
  | moves h => exact .moves (h.trans g)
  | opens hc y => exact .opens hc z
  | closes hc l =>
    cases g
    exact .closes hc l
  | ends hc r =>
    cases g
    exact .ends hc r

/-- Every bank takes such a step in a command's answer. -/
def State.Steps (s : State) (c : Instr) (o : Host.Outcome State Fault Refusal) : Prop :=
  ∀ t, o = .next t → ∀ b, BankStep c (Accounted c.revokes s.prof.tGR b) (s.banks.look b).state (t.banks.look b).state

theorem State.steps_moves {s t : State} {c : Instr} (h : BankMoves c.revokes s t) : s.Steps c (.next t) := by
  rintro _ ⟨⟩ b
  exact .moves (h.banks b)

theorem State.steps_same {s t : State} {c : Instr} (h : t.banks = s.banks) : s.Steps c (.next t) := by
  rintro _ ⟨⟩ b
  rw [h]
  exact .moves (.refl _)

theorem State.steps_idle (s : State) (c : Instr) : s.Steps c (.next s) := State.steps_same rfl

/-- A happening that takes place only when it is due (assumption 2). -/
theorem State.steps_ite {s t : State} {c : Instr} {P : Prop} [Decidable P] (h : s.Steps c (.next t)) :
    s.Steps c (if P then .next t else .next s) := by
  split
  · exact h
  · exact s.steps_idle c

/-! ### The issues (R6 to R8, R19, R68) -/

/-- A step of the banks and moves after it. -/
theorem State.steps_trans {s v t : State} {c : Instr} (profile : v.profile = s.profile)
    (step : ∀ b, BankStep c (Accounted c.revokes s.prof.tGR b) (s.banks.look b).state (v.banks.look b).state)
    (moves : BankMoves c.revokes v t) : s.Steps c (.next t) := by
  rintro _ ⟨⟩ b
  have same : v.prof = s.prof := by rw [State.prof, State.prof, profile]
  exact (step b).trans_moves (same ▸ moves.banks b)

/-- One bank takes a step and the others stay. -/
theorem BankStep.of_put {s : State} {c : Instr} {b : Bank} {x : BankEntry} {may : Bank → Owner → RevokeReason → Prop}
    (h : BankStep c (may b) (s.banks.look b).state x.state) (y : Bank) :
    BankStep c (may y) (s.banks.look y).state ((s.banks.put b x).look y).state := by
  by_cases hy : b = y
  · subst hy
    rwa [Table.look_put_same]
  · rw [Table.look_put_other _ _ _ _ hy]
    exact .moves (.refl _)

/-- The end of a request's issue moves the banks (R48, R68, R128). -/
theorem State.request_end_moves {why : Bank → Owner → RevokeReason → Prop} (v : State) (aged : Bool) (p : Port) (b : Bank)
    (changed : Bool) : BankMoves why v (((v.evalFront p b).recordRequest aged p).afterRequest b changed) := by
  have same : BankMoves why v v := .of_eq rfl rfl
  have recorded : BankMoves why v ((v.evalFront p b).recordRequest aged p) := (same.evalFront p b).trans_eq (by simp) (by simp)
  exact recorded.trans (State.afterRequest_moves _ b changed)

/-- A granted ROW_OPEN finds its bank CLOSED, and a granted ROW_CLOSE finds it OPEN (R49, R51). -/
theorem evalRowOpen_candidate {o : Owner} {row : Row} {x : BankState} (h : evalRowOpen o row x = .candidate) : x = .closed := by
  unfold evalRowOpen at h
  repeat' split at h
  all_goals first | rfl | cases h

theorem evalRowClose_candidate {o : Owner} {x : BankState} (h : evalRowClose o x = .candidate) : ∃ l, x = .opened l := by
  unfold evalRowClose at h
  repeat' split at h
  all_goals first | exact ⟨_, rfl⟩ | cases h

theorem State.issueRowOpen_steps (s : State) (aged : Bool) (p : Port) (e : Entry) (row : Row)
    (granted : s.grantedRequest = some (aged, p, e)) (kind : e.request = .rowOpen row) :
    s.Steps .rowOpenIssued (.next (s.issueRowOpen aged p e row)) := by
  obtain ⟨-, -, front, candidate, -⟩ := s.grantedRequest_spec aged p e granted
  obtain ⟨holds, -, issued⟩ := s.issueRowOpen_eq aged p e row front
  have closed : (s.banks.look e.bank).state = .closed := by
    rw [State.outcome, kind] at candidate
    exact evalRowOpen_candidate candidate
  rw [issued]
  refine State.steps_trans ?_ ?_ (State.request_end_moves _ aged p e.bank true)
  · rfl
  · exact BankStep.of_put (by rw [closed]; exact .opens rfl _)

/-- A column command closes its bank or leaves it (R8). -/
theorem State.issueColumn_steps {s : State} {c : Instr} (hc : c = .colReadIssued ∨ c = .colWriteIssued) (aged : Bool) (p : Port)
    (e : Entry) (row : Row) (ac : Bool) (command : BusCommand) (burst : Burst) (holds : Holds) (d : Drain) (mover : DataMover)
    (granted : s.grantedRequest = some (aged, p, e)) (column : ∀ o x, evaluate o e.request x = evalColumn o row x) :
    s.Steps c (.next (((State.evalFront { s.columnDriven p e ac command burst holds d with mover := mover } p e.bank).recordRequest
      aged p).afterRequest e.bank ac)) := by
  obtain ⟨l, held, -⟩ := State.granted_column_owner granted column
  refine State.steps_trans ?_ ?_ (State.request_end_moves _ aged p e.bank ac)
  · rfl
  · cases ac with
    | false => exact fun b => .moves (.refl _)
    | true => exact BankStep.of_put (by rw [held]; exact .closes (.inr hc) l)

theorem State.issueColRead_steps (s : State) (aged : Bool) (p : Port) (e : Entry) (row : Row) (column : Column) (ac : Bool)
    (granted : s.grantedRequest = some (aged, p, e)) (kind : e.request = .colRead row column ac) :
    s.Steps .colReadIssued (.next (s.issueColRead aged p e column ac)) := by
  obtain ⟨-, -, front, -, -⟩ := s.grantedRequest_spec aged p e granted
  obtain ⟨i, space, -⟩ := State.granted_read_space granted kind
  obtain ⟨holds, d, -, -, -, issued⟩ := s.issueColRead_eq aged p e column ac i front space
  rw [issued]
  exact State.issueColumn_steps (.inl rfl) aged p e row ac _ _ holds d _ granted fun o x => by rw [kind]; rfl

theorem State.issueColWrite_steps (s : State) (aged : Bool) (p : Port) (e : Entry) (row : Row) (column : Column) (ac : Bool)
    (slot : Fin 8) (granted : s.grantedRequest = some (aged, p, e)) (kind : e.request = .colWrite row column ac slot) :
    s.Steps .colWriteIssued (.next (s.issueColWrite aged p e column ac slot)) := by
  obtain ⟨-, -, front, -, -⟩ := s.grantedRequest_spec aged p e granted
  obtain ⟨holds, d, -, -, -, issued⟩ := s.issueColWrite_eq aged p e column ac slot front
  rw [issued]
  exact State.issueColumn_steps (.inr rfl) aged p e row ac _ _ holds d _ granted fun o x => by rw [kind]; rfl

theorem State.issueRowClose_steps (s : State) (aged : Bool) (p : Port) (e : Entry)
    (granted : s.grantedRequest = some (aged, p, e)) (kind : e.request = .rowClose) :
    s.Steps .rowCloseIssued (.next (s.issueRowClose aged p e)) := by
  obtain ⟨-, -, front, candidate, -⟩ := s.grantedRequest_spec aged p e granted
  obtain ⟨holds, d, -, -, issued⟩ := s.issueRowClose_eq aged p e front
  rw [State.outcome, kind] at candidate
  obtain ⟨l, held⟩ := evalRowClose_candidate candidate
  rw [issued]
  refine State.steps_trans ?_ ?_ (State.request_end_moves _ aged p e.bank true)
  · rfl
  · exact BankStep.of_put (by rw [held]; exact .closes (.inl rfl) l)

theorem State.issueRevocation_steps (s : State) (b : Bank) (r : Revocation) (revoking : (s.banks.look b).state = .revoking r) :
    s.Steps .revocationCloseIssued (.next (s.issueRevocation b r)) := by
  obtain ⟨holds, d, links, -, -, -, -, issued⟩ := s.issueRevocation_eq b r
  rw [issued]
  refine State.steps_trans ?_ ?_ (((BankMoves.of_eq rfl rfl).reevaluate b).judgeRemoval s).settle
  · rfl
  · exact BankStep.of_put (by rw [revoking]; exact .ends rfl r)

end Sys2Proof.Machine
end

section
/-! PROOFS. The steps of the banks in the commands of leases, links, requests, times and issues (R10 to R19, R44, R68, R134). -/

namespace Sys2Proof.Machine

/-! ### Leases (R10, R13, R15) -/

/-- A lease changed under its row, owner and contention. -/
theorem BankMoves.of_lease {why : Bank → Owner → RevokeReason → Prop} {s t : State} {b : Bank} {l l' : Lease}
    (held : (s.banks.look b).state = .opened l) (row : l'.row = l.row) (owner : l'.owner = l.owner)
    (contended : l'.contended = l.contended) (profile : t.profile = s.profile)
    (banks : t.banks = s.banks.put b { s.banks.look b with state := .opened l' }) : BankMoves why s t := by
  refine ⟨profile, fun x => ?_⟩
  rw [banks]
  by_cases hx : b = x
  · subst hx
    rw [Table.look_put_same, held]
    exact .opened l l' row owner fun h => contended.trans h
  · rw [Table.look_put_other _ _ _ _ hx]
    exact .refl _

/-- The lease that a LEASE_EXTEND would extend is its bank's (R13). -/
theorem State.extendCheck_ok {s : State} {p : Port} {bank : Byte} {b : Bank} {l : Lease} (h : s.extendCheck p bank = .ok (b, l)) :
    (s.banks.look b).state = .opened l := by
  unfold State.extendCheck at h
  repeat' split at h
  all_goals cases h
  assumption

theorem State.takeExtend_moves {why : Bank → Owner → RevokeReason → Prop} (s : State) (p : Port) (tag bank : Byte) :
    BankMoves why s (s.takeExtend p tag bank) := by
  unfold State.takeExtend
  split
  · exact .of_eq (by simp) (by simp)
  · rename_i b l check
    exact .of_lease (l' := s.extended l) (State.extendCheck_ok check) rfl rfl rfl rfl rfl

theorem execLeaseWarning_steps (b : Bank) (s : State) : s.Steps (.leaseWarning b) (execLeaseWarning b s) := by
  unfold execLeaseWarning
  split
  · rename_i l held
    exact State.steps_ite (State.steps_moves (.of_lease (l' := { l with warned := true }) held rfl rfl rfl rfl rfl))
  all_goals exact s.steps_idle _

theorem execLeaseExpiry_steps (b : Bank) (s : State) : s.Steps (.leaseExpiry b) (execLeaseExpiry b s) := by
  unfold execLeaseExpiry
  split
  · rename_i l held
    have taken : BankMoves (Instr.leaseExpiry b).revokes s (s.revoke b .expired) := s.revoke_moves b .expired fun _ _ => .inl rfl
    refine State.steps_ite (State.steps_moves ?_)
    exact (((taken.trans_eq (by simp) (by simp)).reevaluate b).judgeRemoval s).settle
  all_goals exact s.steps_idle _

/-! ### Sessions and links (R134, R139 to R143) -/

theorem execLinkDown_steps (p : Port) (s : State) : s.Steps (.linkDown p) (execLinkDown p s) := by
  unfold execLinkDown
  split
  · exact s.steps_idle _
  · exact State.steps_same (by simp)
  all_goals exact State.steps_moves (s.endSession_moves p _ .lost fun _ => .inl rfl).settle

theorem State.takeJoin_moves (s : State) (p : Port) (h : Header) (tag revision : Byte) :
    BankMoves (Instr.join p h revision).revokes s (s.takeJoin p tag revision) := by
  unfold State.takeJoin
  split
  · exact .of_eq (by simp) (by simp)
  · split
    · exact (s.openSession_moves p tag).settle
    · rename_i e _
      have ended : BankMoves (Instr.join p h revision).revokes s (s.endSession p e .rejoin) :=
        s.endSession_moves p e .rejoin fun _ => .inr ⟨h, revision, rfl⟩
      exact (ended.trans (State.openSession_moves _ p tag)).settle

theorem execReadyToLeave_steps (p : Port) (s : State) : s.Steps (.readyToLeave p) (execReadyToLeave p s) := by
  unfold execReadyToLeave
  split
  · rename_i e tag _
    let v := s.modLink p fun l => { l with session := .leaving e tag true false }
    have asked : BankMoves (Instr.readyToLeave p).revokes v (allBanks.foldl (State.revokeOwned ⟨p, e⟩ .portLeft) v) :=
      .foldl _ v (fun u b _ => u.revokeOwned_moves _ _ b (.inl rfl)) _
    have linked : BankMoves (Instr.readyToLeave p).revokes s v := .of_eq rfl rfl
    exact State.steps_moves (((linked.trans asked).trans_eq (by simp [v]) (by simp [v])).judgeRemoval s).settle
  · exact s.steps_idle _

theorem execLeaveComplete_steps (p : Port) (s : State) : s.Steps (.leaveComplete p) (execLeaveComplete p s) := by
  unfold execLeaveComplete
  split
  · rename_i e tag _
    have ended : BankMoves (Instr.leaveComplete p).revokes s (s.endSession p e .left) :=
      s.endSession_moves p e .left fun _ => .inr rfl
    exact State.steps_moves (ended.trans_eq (by simp) (by simp)).settle
  · exact s.steps_idle _

theorem execHandedToLink_steps (p : Port) (s : State) : s.Steps (.handedToLink p) (execHandedToLink p s) := by
  unfold execHandedToLink
  split
  · refine State.steps_same ?_
    simp only [State.settle_frame, State.handHead]
    split <;> simp
  all_goals exact s.steps_idle _

/-! ### The requests (R44, R45, R57, R100, R127) -/

/-- A frame whose block moves the banks. -/
theorem State.receive_steps {s : State} {c : Instr} {p : Port} {h : Header} {isJoin : Bool} {route : State → State}
    (hr : ∀ u : State, BankMoves c.revokes u (route u)) : s.Steps c (.next (s.receive p h isJoin route)) :=
  State.steps_moves (s.receive_moves p h isJoin route (hr _))

section
variable {why : Bank → Owner → RevokeReason → Prop}

theorem BankMoves.wantWake {s t : State} (h : BankMoves why s t) : BankMoves why s t.wantWake := h.trans_eq (by simp) (by simp)

theorem State.takeLeave_moves (s : State) (p : Port) (tag : Byte) : BankMoves why s (s.takeLeave p tag) := by
  unfold State.takeLeave
  split <;> exact .of_eq (by simp) (by simp)

theorem State.takeCancel_moves (s : State) (p : Port) (tag target : Byte) : BankMoves why s (s.takeCancel p tag target) := by
  unfold State.takeCancel
  split
  · exact .of_eq (by simp) (by simp)
  · rename_i e _
    have removed : BankMoves why s (((s.removeTag p target).reply p target .cancelled).freeEntrySlot p e) :=
      .of_eq (by simp) (by simp)
    exact (BankMoves.ite (removed.evalFront p e.bank) removed).judgeUnanimity.settle

theorem State.takeSleepVote_moves (s : State) (p : Port) (tag : Byte) : BankMoves why s (s.takeSleepVote p tag) := by
  have voted : BankMoves why s ((s.setVote p (some .voted)).reply p tag .voteNoted).judgeHotExit := .of_eq (by simp) (by simp)
  exact (BankMoves.ite voted.judgeUnanimity voted).settle

theorem State.takeWake_moves (s : State) (p : Port) (tag : Byte) : BankMoves why s (s.takeWake p tag) := by
  have awake : BankMoves why s ((s.setVote p (some .awake)).reply p tag .wakeNoted) := .of_eq (by simp) (by simp)
  have judged : BankMoves why s ((s.setVote p (some .awake)).reply p tag .wakeNoted).judgeHotExit := .of_eq (by simp) (by simp)
  exact (BankMoves.ite judged.judgeUnanimity awake).wantWake.settle

theorem State.takeReport_moves (s : State) (p : Port) (tag : Byte) (t : BitVec 16) : BankMoves why s (s.takeReport p tag t) := by
  have recorded : BankMoves why s { s with
    refresh := { s.refresh with table := s.refresh.table.put p (some (clampTemperature t)) } } := .of_eq rfl rfl
  exact (recorded.trans (State.evalThermal_moves _ _ _ fun v => .of_eq (by simp) (by simp))).settle

end

theorem State.queued_steps {c : Instr} (s : State) (p : Port) (h : Header) (bank : Byte) (a : Arrival) :
    s.Steps c (.next (s.queued p h bank a)) :=
  State.receive_steps fun u => (u.arrive_moves p h.tag bank a).settle

theorem execBadKindFrame_steps (p : Port) (h : Header) (kind : Byte) (length : Nat) (s : State) :
    s.Steps (.badKindFrame p h kind length) (execBadKindFrame p h kind length s) := by
  unfold execBadKindFrame
  split
  · exact s.steps_idle _
  · exact State.receive_steps fun u => .of_eq (by simp) (by simp)

/-! ### What rank time brings about (R56, R79, R91, R150, R152) -/

theorem execGraceEnd_steps (s : State) : s.Steps .graceEnd (execGraceEnd s) := by
  have ended : BankMoves Instr.graceEnd.revokes s s.endGrace :=
    s.endGrace_moves fun b o r hr => .inl (Instr.revokes_of_cut (.inl rfl) b o r hr)
  exact State.steps_ite (State.steps_moves (ended.judgeRemoval s).settle)

theorem State.askRefresh_moves (s : State) (marked : Bool) :
    BankMoves Instr.intervalTimerExpiry.revokes s (s.askRefresh marked) := by
  unfold State.askRefresh
  extract_lets u wanted v
  have counted : BankMoves Instr.intervalTimerExpiry.revokes s u := .ite (.of_eq (by simp) (by simp)) (.of_eq rfl rfl)
  have asked : BankMoves Instr.intervalTimerExpiry.revokes u v :=
    .ite (u.addPurpose_moves .refresh marked id (fun _ => Instr.revokes_of_cut (.inr (.inl rfl))) fun _ => .of_eq rfl rfl)
      (.of_eq rfl rfl)
  exact .ite ((counted.trans asked).trans_eq (by simp) (by simp)) (counted.trans asked)

theorem execIntervalTimerExpiry_steps (s : State) : s.Steps .intervalTimerExpiry (execIntervalTimerExpiry s) := by
  have owed : BankMoves Instr.intervalTimerExpiry.revokes s s.owe := by
    unfold State.owe
    exact .ite (.of_eq rfl rfl) (.of_eq (by simp) (by simp))
  have reloaded : BankMoves Instr.intervalTimerExpiry.revokes s.owe { s.owe with
    refresh := { s.owe.refresh with timer := some (s.owe.time + s.owe.reload) } } := .of_eq rfl rfl
  exact State.steps_ite (State.steps_moves (((owed.trans reloaded).trans (State.askRefresh_moves _ _)).judgeRemoval s).settle)

theorem execEntryAged_steps (p : Port) (tag : Byte) (s : State) : s.Steps (.entryAged p tag) (execEntryAged p tag s) := by
  unfold execEntryAged
  split
  · exact s.steps_idle _
  · exact State.steps_ite (State.steps_same (by simp))

theorem execWriteBurstStart_steps (s : State) : s.Steps .writeBurstStart (execWriteBurstStart s) := by
  unfold execWriteBurstStart
  split
  · exact s.steps_idle _
  · exact State.steps_ite (State.steps_same (by simp))

theorem execReadBurstStart_steps (s : State) : s.Steps .readBurstStart (execReadBurstStart s) := by
  unfold execReadBurstStart
  split
  · exact s.steps_idle _
  · exact State.steps_ite (State.steps_same (by simp))

theorem execWriteDataEnd_steps (s : State) : s.Steps .writeDataEnd (execWriteDataEnd s) := by
  unfold execWriteDataEnd
  split
  · exact s.steps_idle _
  · refine State.steps_ite (State.steps_same ?_)
    simp only [State.settle_frame, State.finishWrite]
    repeat' split
    all_goals simp

theorem execReadDataArrival_steps (data : Block) (s : State) : s.Steps (.readDataArrival data) (execReadDataArrival data s) := by
  unfold execReadDataArrival
  split
  · exact s.steps_idle _
  · refine State.steps_ite (State.steps_same ?_)
    simp only [State.settle_frame, State.finishRead]
    repeat' split
    all_goals simp

/-! ### The issues as commands (R68, R69) -/

theorem execRowOpenIssued_steps (s : State) : s.Steps .rowOpenIssued (execRowOpenIssued s) := by
  unfold execRowOpenIssued
  split
  · exact s.steps_idle _
  · split
    · exact s.issueRowOpen_steps _ _ _ _ ‹_› ‹_›
    all_goals exact s.steps_idle _

theorem execColReadIssued_steps (s : State) : s.Steps .colReadIssued (execColReadIssued s) := by
  unfold execColReadIssued
  split
  · exact s.steps_idle _
  · split
    · exact s.issueColRead_steps _ _ _ _ _ _ ‹_› ‹_›
    all_goals exact s.steps_idle _

theorem execColWriteIssued_steps (s : State) : s.Steps .colWriteIssued (execColWriteIssued s) := by
  unfold execColWriteIssued
  split
  · exact s.steps_idle _
  · split
    · exact s.issueColWrite_steps _ _ _ _ _ _ _ ‹_› ‹_›
    all_goals exact s.steps_idle _

theorem execRowCloseIssued_steps (s : State) : s.Steps .rowCloseIssued (execRowCloseIssued s) := by
  unfold execRowCloseIssued
  split
  · exact s.steps_idle _
  · split
    · exact s.issueRowClose_steps _ _ _ ‹_› ‹_›
    all_goals exact s.steps_idle _

theorem execRevocationCloseIssued_steps (s : State) : s.Steps .revocationCloseIssued (execRevocationCloseIssued s) := by
  unfold execRevocationCloseIssued
  split
  · exact s.steps_idle _
  · split
    · exact s.issueRevocation_steps _ _ ‹_›
    all_goals exact s.steps_idle _

end Sys2Proof.Machine
end

section
/-! PROOFS. The rank operations, the rank's times and the management port on the banks, and all commands in one statement: O5. -/

namespace Sys2Proof.Machine

/-! ### The rank operations (R69) -/

section
variable {why : Bank → Owner → RevokeReason → Prop}

theorem BankMoves.dropPurpose {s t : State} (h : BankMoves why s t) (u : Purpose) : BankMoves why s (t.dropPurpose u) :=
  h.trans_eq (by simp) (by simp)

theorem BankMoves.recordOperation {s t : State} (h : BankMoves why s t) : BankMoves why s t.recordOperation :=
  h.trans_eq (by simp) (by simp)

theorem State.refreshDone_moves (s : State) (pullIn : Bool) :
    BankMoves why s (s.refreshDone pullIn) := by
  have counted (v : State) : BankMoves why v v.countRefresh := by
    unfold State.countRefresh
    have cleared : BankMoves why v { v with refresh := { v.refresh with count := 0 } } := .of_eq rfl rfl
    exact .ite (cleared.trans (State.shortCalibrationDue_moves _)) (.of_eq rfl rfl)
  unfold State.refreshDone
  dsimp only
  refine BankMoves.ite (BankMoves.dropPurpose ?_ _) ?_ <;> exact (BankMoves.of_eq (by simp) (by simp)).trans (counted _)

/-- A self-refresh exit makes a short calibration due (R108). -/
theorem State.exitReports_moves (s : State) : BankMoves why s s.exitReports := by
  have locked : BankMoves why s { s with calibration := { s.calibration with lock := some (s.time + s.prof.tLOCK) } } :=
    .of_eq rfl rfl
  exact (locked.trans (State.shortCalibrationDue_moves _)).trans (.of_eq rfl rfl)

theorem State.exitRank_moves (s : State) : BankMoves why s s.exitRank := by
  unfold State.exitRank
  split <;> exact .of_eq (by simp) (by simp)

end

theorem execRefreshIssued_steps (s : State) : s.Steps .refreshIssued (execRefreshIssued s) := by
  unfold execRefreshIssued
  split
  · rename_i pullIn _
    have driven : BankMoves Instr.refreshIssued.revokes s (s.drive .refresh (refreshRaises s.prof)) := .of_eq (by simp) (by simp)
    exact State.steps_moves (driven.trans (State.refreshDone_moves _ pullIn)).recordOperation.settle
  all_goals exact s.steps_idle _

theorem execShortCalibrationIssued_steps (s : State) : s.Steps .shortCalibrationIssued (execShortCalibrationIssued s) :=
  State.steps_ite (State.steps_same (by simp [State.issueShortCalibration]))

theorem execLongCalibrationIssued_steps (s : State) : s.Steps .longCalibrationIssued (execLongCalibrationIssued s) := by
  refine State.steps_ite (State.steps_same ?_)
  simp only [State.issueLongCalibration, State.settle_frame, State.recordOperation_frame]
  split <;> simp

theorem execModeSetIssued_steps (s : State) : s.Steps .modeSetIssued (execModeSetIssued s) := by
  unfold execModeSetIssued
  split
  · refine State.steps_same ?_
    simp only [State.issueModeSet, State.settle_frame, State.recordOperation_frame]
    split <;> simp
  all_goals exact s.steps_idle _

theorem execPowerDownEntryIssued_steps (s : State) : s.Steps .powerDownEntryIssued (execPowerDownEntryIssued s) := by
  refine State.steps_ite (State.steps_moves ?_)
  unfold State.issuePowerDownEntry
  dsimp only
  refine (BankMoves.judgeUnanimity (.of_eq ?_ ?_)).settle <;> simp

/-- A power-down exit with stop pending carries out the STOP (R121). -/
theorem execPowerDownExitIssued_steps (s : State) : s.Steps .powerDownExitIssued (execPowerDownExitIssued s) := by
  refine State.steps_ite (State.steps_moves ?_)
  have cut := Instr.revokes_of_cut (c := .powerDownExitIssued) (by simp [Instr.cutsGrace])
  let d := s.drive .powerDownExit (busRaises s.prof.tPDX)
  have driven : BankMoves Instr.powerDownExitIssued.revokes s d := .of_eq (by simp [d]) (by simp [d])
  have active : BankMoves Instr.powerDownExitIssued.revokes s (d.become .active) := driven.trans_eq (by simp) (by simp)
  exact (BankMoves.ite (driven.trans (d.carryOutStop_moves cut)) active.judgeUnanimity).recordOperation.settle

theorem execSelfRefreshEntryIssued_steps (s : State) : s.Steps .selfRefreshEntryIssued (execSelfRefreshEntryIssued s) := by
  refine State.steps_ite (State.steps_moves ?_)
  unfold State.issueSelfRefreshEntry
  dsimp only
  refine BankMoves.settle (.recordOperation (.ite (.of_eq ?_ ?_) (.judgeUnanimity (.of_eq ?_ ?_)))) <;> split <;> simp

theorem execSelfRefreshExitIssued_steps (s : State) : s.Steps .selfRefreshExitIssued (execSelfRefreshExitIssued s) := by
  let d := s.drive .selfRefreshExit (busRaises s.prof.tSRX)
  have driven : BankMoves Instr.selfRefreshExitIssued.revokes s d := .of_eq (by simp [d]) (by simp [d])
  have awake : BankMoves Instr.selfRefreshExitIssued.revokes s d.exitRank.votesAwake :=
    (driven.trans d.exitRank_moves).trans_eq (by simp) (by simp)
  exact State.steps_ite (State.steps_moves (awake.trans (State.exitReports_moves _)).recordOperation.settle)

/-! ### The rank's own times (R107, R119, R120, R124, R126, R131) -/

theorem execLongCalBusyEnd_steps (s : State) : s.Steps .longCalBusyEnd (execLongCalBusyEnd s) := by
  have ended : BankMoves Instr.longCalBusyEnd.revokes s s.notBusy := .of_eq (by simp) (by simp)
  exact State.steps_ite (State.steps_moves (.ite (ended.trans s.notBusy.becomeActive_moves).settle ended.settle))

theorem execResetHoldEnd_steps (s : State) : s.Steps .resetHoldEnd (execResetHoldEnd s) := by
  unfold execResetHoldEnd
  split
  · exact State.steps_ite (State.steps_same (by simp))
  · exact s.steps_idle _

theorem execClockSettleEnd_steps (s : State) : s.Steps .clockSettleEnd (execClockSettleEnd s) := by
  unfold execClockSettleEnd
  split
  · exact State.steps_ite (State.steps_same (by simp))
  · exact s.steps_idle _

theorem execExitWaitEnd_steps (s : State) : s.Steps .exitWaitEnd (execExitWaitEnd s) := by
  unfold execExitWaitEnd
  split
  · exact State.steps_ite (State.steps_same (by simp))
  · exact s.steps_idle _

theorem execResidencyEnd_steps (s : State) : s.Steps .residencyEnd (execResidencyEnd s) := by
  unfold execResidencyEnd
  split
  · exact State.steps_ite (State.steps_same (by simp))
  · exact s.steps_idle _

/-- The wake end with stop pending carries out the STOP (R122). -/
theorem execWakeEnd_steps (s : State) : s.Steps .wakeEnd (execWakeEnd s) := by
  have cut := Instr.revokes_of_cut (c := .wakeEnd) (by simp [Instr.cutsGrace])
  have active : BankMoves Instr.wakeEnd.revokes s s.becomeActive := s.becomeActive_moves
  exact State.steps_ite (State.steps_moves (BankMoves.ite (active.trans (State.carryOutStop_moves _ cut)) active).settle)

/-! ### The management port (R118, R121, R162) -/

theorem execStart_steps (s : State) : s.Steps .start (execStart s) := by
  unfold execStart
  repeat' split
  all_goals exact State.steps_same (by simp [State.takeStart])

theorem execStop_steps (s : State) : s.Steps .stop (execStop s) := by
  have cut := Instr.revokes_of_cut (c := .stop) (by simp [Instr.cutsGrace])
  have answered : BankMoves Instr.stop.revokes s (s.setStatus .ok) := .of_eq (by simp) (by simp)
  unfold execStop
  split
  · exact State.steps_same (by simp)
  · split
    · exact State.steps_moves (answered.trans (State.carryOutStop_moves _ cut)).settle
    · have pending : BankMoves Instr.stop.revokes s (State.wantExit { s.setStatus .ok with
        rank := { (s.setStatus .ok).rank with stopPending := true } }) := .of_eq (by simp) (by simp)
      exact State.steps_moves pending.judgeUnanimity.settle
    all_goals exact State.steps_same (by simp [State.stopInWaking])

theorem execCommit_steps (s : State) : s.Steps .commit (execCommit s) := by
  unfold execCommit
  repeat' split
  all_goals exact State.steps_same rfl

theorem execFaultPop_steps (s : State) : s.Steps .faultPop (execFaultPop s) := by
  unfold execFaultPop
  split <;> exact State.steps_same rfl

theorem execRegisterCapture_steps (address : BitVec 16) (s : State) :
    s.Steps (.registerCapture address) (execRegisterCapture address s) := by
  refine State.steps_same ?_
  unfold State.captured
  split <;> rfl

end Sys2Proof.Machine

namespace Sys2Proof

open Machine

/-- Every command but the resets takes every bank through a step of its own (R2). -/
theorem exec_steps (c : Instr) (s : State) (notReset : ∀ lanes thot, c ≠ .powerOnReset lanes thot) (notSoft : c ≠ .softReset) :
    s.Steps c (exec c s) := by
  cases c with
  | powerOnReset lanes thot => exact absurd rfl (notReset lanes thot)
  | softReset => exact absurd rfl notSoft
  | linkUp p => exact State.steps_ite (State.steps_same (by simp))
  | linkDown p => exact execLinkDown_steps p s
  | thotAsserted => exact State.steps_moves (s.takeThot_moves true).settle
  | thotDeasserted => exact State.steps_moves (s.takeThot_moves false).settle
  | frameCrcDiscard p bytes => exact State.steps_ite (State.steps_same (by simp))
  | frameOutOfSequence p seq => exact State.steps_ite (State.steps_same (by simp))
  | join p h revision => exact State.receive_steps fun u => u.takeJoin_moves p h h.tag revision
  | leave p h => exact State.receive_steps fun u => u.takeLeave_moves p h.tag
  | leaseExtend p h bank => exact State.receive_steps fun u => u.takeExtend_moves p h.tag bank
  | cancel p h target => exact State.receive_steps fun u => u.takeCancel_moves p h.tag target
  | sleepVote p h => exact State.receive_steps fun u => u.takeSleepVote_moves p h.tag
  | wake p h => exact State.receive_steps fun u => u.takeWake_moves p h.tag
  | tempReport p h t => exact State.receive_steps fun u => u.takeReport_moves p h.tag t
  | rowOpen p h bank row => exact s.queued_steps p h bank _
  | colRead p h bank row column flags => exact s.queued_steps p h bank _
  | colWrite p h bank row column flags data => exact s.queued_steps p h bank _
  | rowClose p h bank => exact s.queued_steps p h bank _
  | handedToLink p => exact execHandedToLink_steps p s
  | readyToLeave p => exact execReadyToLeave_steps p s
  | leaveComplete p => exact execLeaveComplete_steps p s
  | holdMet id => exact State.steps_ite (State.steps_same (by simp))
  | windowEntryLeaves => exact State.steps_ite (State.steps_same (by simp))
  | leaseWarning b => exact execLeaseWarning_steps b s
  | leaseExpiry b => exact execLeaseExpiry_steps b s
  | graceEnd => exact execGraceEnd_steps s
  | intervalTimerExpiry => exact execIntervalTimerExpiry_steps s
  | entryAged p tag => exact execEntryAged_steps p tag s
  | writeBurstStart => exact execWriteBurstStart_steps s
  | readBurstStart => exact execReadBurstStart_steps s
  | writeDataEnd => exact execWriteDataEnd_steps s
  | readDataArrival data => exact execReadDataArrival_steps data s
  | rowOpenIssued => exact execRowOpenIssued_steps s
  | colReadIssued => exact execColReadIssued_steps s
  | colWriteIssued => exact execColWriteIssued_steps s
  | rowCloseIssued => exact execRowCloseIssued_steps s
  | revocationCloseIssued => exact execRevocationCloseIssued_steps s
  | refreshIssued => exact execRefreshIssued_steps s
  | shortCalibrationIssued => exact execShortCalibrationIssued_steps s
  | longCalibrationIssued => exact execLongCalibrationIssued_steps s
  | modeSetIssued => exact execModeSetIssued_steps s
  | powerDownEntryIssued => exact execPowerDownEntryIssued_steps s
  | powerDownExitIssued => exact execPowerDownExitIssued_steps s
  | selfRefreshEntryIssued => exact execSelfRefreshEntryIssued_steps s
  | selfRefreshExitIssued => exact execSelfRefreshExitIssued_steps s
  | longCalBusyEnd => exact execLongCalBusyEnd_steps s
  | shortCalBusyEnd => exact State.steps_ite (State.steps_same (by simp))
  | lockEnd => exact State.steps_ite (State.steps_same (by simp))
  | resetHoldEnd => exact execResetHoldEnd_steps s
  | clockSettleEnd => exact execClockSettleEnd_steps s
  | exitWaitEnd => exact execExitWaitEnd_steps s
  | modeLoadEnd => exact State.steps_ite (State.steps_moves s.becomeActive_moves.settle)
  | idleTimerExpiry => exact State.steps_ite (State.steps_same rfl)
  | residencyEnd => exact execResidencyEnd_steps s
  | wakeEnd => exact execWakeEnd_steps s
  | start => exact execStart_steps s
  | stop => exact execStop_steps s
  | commit => exact execCommit_steps s
  | faultPop => exact execFaultPop_steps s
  | mgmtErrorClear value => exact State.steps_ite (State.steps_same rfl)
  | alertMaskWrite value => exact State.steps_same rfl
  | stagedProfileWrite field byte value => exact State.steps_same rfl
  | mgmtWriteBad address value => exact State.steps_ite (State.steps_same rfl)
  | registerCapture address => exact execRegisterCapture_steps address s
  | badKindFrame p h kind length => exact execBadKindFrame_steps p h kind length s

end Sys2Proof

namespace Sys2Proof.Proofs

open Sys2Proof Sys2Proof.Machine

/-- Settles O5: the bank's step (`exec_steps`) by the states it leads between. -/
theorem bankStateTransitions : Obligations.BankStateTransitions := by
  intro c s t b answered notReset notSoft
  have step := exec_steps c s notReset notSoft t answered b
  generalize (s.banks.look b).state = x at step
  generalize (t.banks.look b).state = y at step
  refine ⟨?_, ?_, ?_, ?_, ?_, ?_⟩
  · rintro rfl changed
    cases step with
    | moves h =>
      cases h
      exact absurd rfl changed
    | opens hc => exact hc
  · rintro l rfl rfl
    cases step with
    | moves h => cases h
    | closes hc => exact hc
  · rintro l l' rfl rfl
    cases step with
    | moves h =>
      cases h with
      | opened _ _ row owner => exact ⟨row, owner⟩
  · rintro l r rfl rfl
    cases step with
    | moves h =>
      cases h with
      | revoked _ _ row owner contended reason =>
        refine ⟨row, owner, contended, fun e => ?_, fun e => ?_, fun e => ?_, fun grace => ?_⟩
        · rw [e] at reason
          exact reason.own (by decide)
        · rw [e] at reason
          exact reason.own (by decide)
        · rw [e] at reason
          exact reason.own (by decide)
        · have cut := Instr.accounted_grace grace reason
          simpa only [Instr.cutsGrace, or_assoc] using cut
  · rintro r rfl rfl
    cases step with
    | moves h => cases h
    | ends hc => exact hc
  · rintro r l rfl rfl
    cases step with
    | moves h => cases h

end Sys2Proof.Proofs
end

section
/-! PROOFS. What ends with rank time after an issue, holds, window entries and bursts (R24, R33, R39, R150, R152): O36 and O41 to
O43. -/

namespace Sys2Proof.Machine

/-! ### Holds and the activation window (R24, R39) -/

/-- A raise of a met hold leaves it met where its instant has been reached (R24). -/
theorem Hold.raise_of_met (now t : Nat) : Hold.raise now t none = if t ≤ now then none else some t := by
  unfold Hold.raise
  by_cases reached : t ≤ now
  · rw [if_neg (by omega), if_pos reached]
  · rw [if_pos (by omega), if_neg reached]

/-- HOLD_MET of a pending hold: it ends the hold from its instant on, and changes nothing before (R24). -/
theorem exec_holdMet {s : State} {id : HoldId} {u : Nat} (pending : s.holds.holds.hold id = some u) :
    exec (.holdMet id) s = .next (if u ≤ s.time then (s.setHold id none).settle else s) := by
  have due : s.holdDue id = decide (u ≤ s.time) := by simp only [State.holdDue, pending, State.reached]
  change execHoldMet id s = _
  rw [execHoldMet, due]
  by_cases reached : u ≤ s.time <;> simp [reached]

/-- WINDOW_ENTRY_LEAVES of an entry whose span has run out (R39). -/
theorem exec_windowEntryLeaves {s : State} {u : Nat} {rest : List Nat} (window : s.holds.window = u :: rest)
    (due : u + s.prof.tWS ≤ s.time) :
    exec .windowEntryLeaves s = .next (State.settle { s with holds := { s.holds with window := rest } }) := by
  have reached : s.windowDue = true := by simp only [State.windowDue, window, State.reached, due, decide_true]
  change execWindowEntryLeaves s = _
  rw [execWindowEntryLeaves, if_pos reached, window]
  rfl

/-! ### What a burst finds at its port (R150, R152) -/

/-- The one item that meets a test is the one found. -/
theorem find?_eq_of_unique {α : Type} {l : List α} {test : α → Bool} {i : α} (mem : i ∈ l) (met : test i = true)
    (only : ∀ j, test j = true → j = i) : l.find? test = some i := by
  cases found : l.find? test with
  | none => exact absurd met (List.find?_eq_none.mp found i mem)
  | some j => rw [only j (List.find?_some found)]

theorem WriteSlot.isFor_iff {w : WriteSlot} {tag epoch : Byte} : w.isFor tag epoch = true ↔ ∃ d, w = .issued tag epoch d := by
  cases w <;> simp [WriteSlot.isFor]

theorem ReadSpace.isFor_iff {x : ReadSpace} {tag epoch : Byte} : x.isFor tag epoch = true ↔ x = .awaiting tag epoch := by
  cases x <;> simp [ReadSpace.isFor]

/-- A WRITE burst takes its data from the one slot ISSUED for it (R150). -/
theorem State.burstSlot_eq {s : State} {b : Burst} {i : Fin 8} {d : Block}
    (slot : (s.mover.ports.look b.port).slots.look i = .issued b.tag b.epoch d)
    (only : ∀ j d', (s.mover.ports.look b.port).slots.look j = .issued b.tag b.epoch d' → j = i) : s.burstSlot b = some i :=
  find?_eq_of_unique (mem_allSlots i) (WriteSlot.isFor_iff.mpr ⟨d, slot⟩) fun j issued =>
    have ⟨d', is⟩ := WriteSlot.isFor_iff.mp issued
    only j d' is

/-- A READ burst delivers into the one space AWAITING its data (R152). -/
theorem State.burstSpace_eq {s : State} {b : Burst} {i : Fin 4}
    (space : (s.mover.ports.look b.port).spaces.look i = .awaiting b.tag b.epoch)
    (only : ∀ j, (s.mover.ports.look b.port).spaces.look j = .awaiting b.tag b.epoch → j = i) : s.burstSpace b = some i :=
  find?_eq_of_unique (mem_allSpaces i) (ReadSpace.isFor_iff.mpr space) fun j awaiting => only j (ReadSpace.isFor_iff.mp awaiting)

/-! ### The start of a burst (R33) -/

/-- The burst that starts next is the first without its mark. -/
theorem State.nextStart_eq {s : State} {b : Burst} {before after : List Burst} (bursts : s.holds.bursts = before ++ b :: after)
    (started : ∀ x ∈ before, x.started = true) (next : b.started = false) : s.nextStart = some b := by
  refine List.find?_eq_some_iff_append.mpr ⟨by simp [next], before, after, bursts, fun x hx => ?_⟩
  simp [started x hx]

/-- The first burst without its mark is the one marked. -/
theorem markStarted_append {b : Burst} {before after : List Burst} (started : ∀ x ∈ before, x.started = true)
    (next : b.started = false) : markStarted (before ++ b :: after) = before ++ { b with started := true } :: after := by
  induction before with
  | nil => simp [markStarted, next]
  | cons x before ih =>
    obtain ⟨first, rest⟩ := List.forall_mem_cons.mp started
    simp [markStarted, first, ih rest]

/-- A burst start that is due, of either direction, starts the next burst (R33). -/
theorem exec_burstStart {s : State} {b : Burst} (next : s.nextStart = some b) (due : b.start ≤ s.time) :
    (b.direction = .write → exec .writeBurstStart s = .next (s.startBurst b)) ∧
      (b.direction = .read → exec .readBurstStart s = .next (s.startBurst b)) := by
  have reached : ∀ d, b.direction = d → s.startDue d = true := fun d hd => by
    simp [State.startDue, next, hd, State.reached, due]
  constructor <;> intro way
  · simp only [exec, execWriteBurstStart, next, reached _ way, if_true]
  · simp only [exec, execReadBurstStart, next, reached _ way, if_true]

/-! ### The end of a burst (R33, R150, R152) -/

/-- The oldest burst leaves the record; the data bus falls quiet unless another burst has started (R33). -/
theorem State.endBurst_eq {s : State} {b : Burst} {rest : List Burst} (bursts : s.holds.bursts = b :: rest) :
    s.endBurst = { s with
      holds := { s.holds with bursts := rest }
      mover := { s.mover with dataBus := if ∃ x ∈ rest, x.started = true then s.mover.dataBus else .quiet } } := by
  have quiet : (if rest.any Burst.started then s.mover.dataBus else .quiet) =
      if ∃ x ∈ rest, x.started = true then s.mover.dataBus else DataBus.quiet := if_congr List.any_eq_true rfl rfl
  rw [State.endBurst, bursts, List.tail_cons, quiet]

/-- The data end of a WRITE burst that has been reached (R150). -/
theorem exec_writeDataEnd {s : State} {b : Burst} {rest : List Burst} (bursts : s.holds.bursts = b :: rest)
    (way : b.direction = .write) (due : b.start + 4 ≤ s.time) : exec .writeDataEnd s = .next (s.finishWrite b).settle := by
  have reached : s.endDue .write = true := by simp [State.endDue, bursts, way, State.reached, Burst.finish, due]
  simp only [exec, execWriteDataEnd, bursts, List.head?_cons, reached, if_true]

/-- The arrival of a READ burst's data, which has been reached (R152). -/
theorem exec_readDataArrival {s : State} {b : Burst} {rest : List Burst} (data : Block) (bursts : s.holds.bursts = b :: rest)
    (way : b.direction = .read) (due : b.start + 4 ≤ s.time) :
    exec (.readDataArrival data) s = .next (s.finishRead b data).settle := by
  have reached : s.endDue .read = true := by simp [State.endDue, bursts, way, State.reached, Burst.finish, due]
  simp only [exec, execReadDataArrival, bursts, List.head?_cons, reached, if_true]

/-- The burst of a session that is current settles its request, that of an ended one does not (R46, R150). -/
theorem State.finishWrite_eq {s : State} {b : Burst} {i : Fin 8} (slot : s.burstSlot b = some i) :
    s.finishWrite b = if s.epoch? b.port = some b.epoch then
      ((s.endBurst.setSlot b.port i .free).withSent b.port [⟨b.epoch, b.tag, .written⟩]).releaseTag b.port b.tag
    else s.endBurst.setSlot b.port i .free := by
  have session : (s.endBurst.setSlot b.port i .free).epoch? b.port = s.epoch? b.port := rfl
  simp only [State.finishWrite, slot, State.isCurrent, session, beq_iff_eq, State.reply_withSent, State.frameEpoch]
  split
  · rename_i current
    rw [current, Option.getD_some]
  · rfl

/-- The data of a session that is current go out, those of an ended one are dropped (R46, R152). -/
theorem State.finishRead_eq {s : State} {b : Burst} {i : Fin 4} (data : Block) (space : s.burstSpace b = some i) :
    s.finishRead b data = if s.epoch? b.port = some b.epoch then
      ((s.endBurst.setSpace b.port i (.buffered b.tag b.epoch data)).withSent b.port
        [⟨b.epoch, b.tag, .data i data⟩]).releaseTag b.port b.tag
    else s.endBurst.setSpace b.port i .free := by
  have session : ∀ x, (s.endBurst.setSpace b.port i x).epoch? b.port = s.epoch? b.port := fun _ => rfl
  have ended : s.endBurst.epoch? b.port = s.epoch? b.port := rfl
  simp only [State.finishRead, space, State.isCurrent, ended, beq_iff_eq, State.reply_withSent, State.frameEpoch, session]
  split
  · rename_i current
    rw [current, Option.getD_some]
  · rfl

end Sys2Proof.Machine

namespace Sys2Proof.Proofs

open Sys2Proof Sys2Proof.Machine

/-- Settles O36: a hold met and a window entry gone, each followed by an assessment alone. -/
theorem holdsRaisedMetAndWindowLeaves : Obligations.HoldsRaisedMetAndWindowLeaves := by
  refine ⟨fun now t u => ⟨Hold.raise_of_met now t, rfl⟩, fun s => ⟨fun id u pending due => ?_, fun id u pending early => ?_,
    fun u rest window due => ?_⟩⟩
  · refine ⟨(s.setHold id none).settle, by rw [exec_holdMet pending, if_pos due], fun x => ?_, ?_⟩
    · simp [State.setHold, Holds.hold_set]
    · simp [State.setHold]
  · rw [exec_holdMet pending, if_neg (Nat.not_le.mpr early)]
  · exact ⟨_, exec_windowEntryLeaves window due, State.settle_bare _⟩

/-- Settles O41: the burst that starts is the first without its mark, and the beats of a WRITE are those of `DataBus.driving`. -/
theorem burstStarts : Obligations.BurstStarts := by
  intro s b before after bursts started next due holds
  obtain ⟨write, read⟩ := exec_burstStart (State.nextStart_eq bursts started next) due
  have starts : s.startBurst b = { s with holds := holds, mover := { s.mover with dataBus := s.burstBus b } } := by
    rw [State.startBurst, bursts, markStarted_append started next]
  refine ⟨fun i d way slot only => ⟨?_, fun j hj => ?_, fun now => DataBus.beats_outside d b.start now⟩, fun way => ?_⟩
  · have bus : s.burstBus b = .driving d b.start := by
      simp [State.burstBus, way, State.burstSlot_eq slot only, slot, WriteSlot.data?]
    rw [write way, starts, bus]
  · rw [DataBus.beats_driving d b.start j hj, beat, beat, show 8 * (2 * j) = 16 * j by omega,
      show 8 * (2 * j + 1) = 16 * j + 8 by omega]
  · have bus : s.burstBus b = .receiving := by simp [State.burstBus, way]
    rw [read way, starts, bus]

/-- Settles O42: the burst ends, the slot ISSUED for it is FREE, and its session decides the rest. -/
theorem writeDataEnds : Obligations.WriteDataEnds := by
  intro s b rest i d bursts way due slot only m u q
  have finished := State.finishWrite_eq (State.burstSlot_eq slot only)
  have freed : s.endBurst.setSlot b.port i .free = u := by
    rw [State.endBurst_eq bursts]
    rfl
  rw [freed] at finished
  refine ⟨_, exec_writeDataEnd bursts way due, fun current => ?_, fun ended => ?_⟩
  · rw [State.settle_bare, finished, if_pos current]
    rfl
  · rw [State.settle_bare, finished, if_neg ended]

/-- Settles O43: the burst ends, and its session decides what becomes of the space and the data. -/
theorem readDataArrives : Obligations.ReadDataArrives := by
  intro s b rest i d bursts way due space only m u q
  have finished := State.finishRead_eq d (State.burstSpace_eq space only)
  have taken (x : ReadSpace) : s.endBurst.setSpace b.port i x = u x := by
    rw [State.endBurst_eq bursts]
    rfl
  rw [taken, taken] at finished
  refine ⟨_, exec_readDataArrival d bursts way due, fun current => ?_, fun ended => ?_⟩
  · rw [State.settle_bare, finished, if_pos current]
    rfl
  · rw [State.settle_bare, finished, if_neg ended]

end Sys2Proof.Proofs
end

section
/-! PROOFS. Readiness and offers as Tables 2-4, 3-3 and 4-2 give them, and the grant that meets them (R37, R53, R60 to R67): O8. -/

namespace Sys2Proof.Machine

/-! ### Request candidates (R47 to R51) -/

/-- A ROW_OPEN is a candidate where its bank is CLOSED (R49). -/
theorem evalRowOpen_candidate_iff {o : Owner} {row : Row} {x : BankState} : evalRowOpen o row x = .candidate ↔ x = .closed := by
  cases x with
  | closed => simp [evalRowOpen]
  | opened l =>
    simp only [evalRowOpen]
    repeat' split
    all_goals simp
  | revoking r => simp [evalRowOpen]

/-- A column request that has lost its lease, or never held one, is no candidate (R21). -/
theorem lostOrNotOwner_ne_candidate (o : Owner) (row : Row) (record : Option RevokedFrom) :
    lostOrNotOwner o row record ≠ .candidate := by
  unfold lostOrNotOwner
  split <;> simp

/-- A column request is a candidate where its session holds its row (R50). -/
theorem evalColumn_candidate_iff {o : Owner} {row : Row} {x : BankEntry} :
    evalColumn o row x = .candidate ↔ ∃ l, x.state = .opened l ∧ l.owner = o ∧ l.row = row := by
  have lost := lostOrNotOwner_ne_candidate o row x.revokedFrom
  cases hx : x.state with
  | closed => simp [evalColumn, hx, lost]
  | opened l =>
    by_cases own : l.owner = o <;> by_cases same : l.row = row <;> simp [evalColumn, hx, own, same, lost]
  | revoking r => by_cases own : r.owner = o <;> simp [evalColumn, hx, own, lost]

/-- A ROW_CLOSE is a candidate where its session holds the bank (R51). -/
theorem evalRowClose_candidate_iff {o : Owner} {x : BankState} :
    evalRowClose o x = .candidate ↔ ∃ l, x = .opened l ∧ l.owner = o := by
  cases x with
  | closed => simp [evalRowClose]
  | opened l => by_cases own : l.owner = o <;> simp [evalRowClose, own]
  | revoking r => simp [evalRowClose]

/-- Candidates are the front entries that evaluation lets stand (R47 to R51). -/
theorem State.candidate_iff (s : State) (p : Port) (e : Entry) :
    s.Candidate p e ↔ s.isFront p e = true ∧ s.outcome p e = .candidate := by
  rw [State.Candidate, s.isFront_iff]
  refine and_congr_right fun _ => ?_
  cases hr : e.request <;>
    simp [State.outcome, hr, evaluate, evalRowOpen_candidate_iff, evalColumn_candidate_iff, evalRowClose_candidate_iff,
      State.holdsLease, State.frameEpoch]

/-! ### Ready requests (Table 3-3) -/

/-- The holds of a request's command are answered met where those that Table 2-4 tests are met, with room for a ROW_OPEN (R40). -/
theorem State.requestHoldsMet_iff (s : State) (e : Entry) : s.requestHoldsMet e = true ↔
    s.HoldsMet (e.request.tested e.bank) ∧ ((∃ row, e.request = .rowOpen row) → s.hasRoom = true) := by
  cases hr : e.request <;>
    simp [State.requestHoldsMet, hr, Request.tested, State.HoldsMet, ← State.met_iff, State.openHoldsMet, State.readHoldsMet,
      State.writeHoldsMet, State.closeHoldsMet, and_assoc]

/-- An entry has no unmet condition where it meets those of Table 3-3. -/
theorem State.unmet_eq_none_iff (s : State) (p : Port) (e : Entry) : s.unmet p e = none ↔ s.MayIssue p e := by
  have holds := s.requestHoldsMet_iff e
  have drain : s.drain.phase = .none ↔ s.drain.phase.isActive = false := (DrainPhase.isActive_eq_false _).symm
  unfold State.unmet State.MayIssue
  by_cases active : s.rank.state = .active
  · cases hr : e.request with
    | rowOpen row =>
      simp only [hr, Request.rowOpen.injEq, exists_eq', forall_const, s.hasRoom_iff] at holds
      simp only [active, ← s.calibrationBusy_eq_false, drain]
      cases s.drain.phase.isActive <;> cases s.calibrationBusy <;> simp [holds]
    | colRead row column ac =>
      simp only [hr, reduceCtorEq, exists_false, false_imp_iff, and_true] at holds
      simp only [active, ← s.lockEnded_iff, ← s.spacesInUse_lt_iff p]
      cases s.lockEnded <;> by_cases full : 4 ≤ s.spacesInUse p <;> simp [holds, full]
    | colWrite row column ac slot =>
      simp only [hr, reduceCtorEq, exists_false, false_imp_iff, and_true] at holds
      simp [active, holds]
    | rowClose =>
      simp only [hr, reduceCtorEq, exists_false, false_imp_iff, and_true] at holds
      simp [active, holds]
  · simp [active]

/-- The entries that are ready (R53). -/
theorem State.isReady_iff (s : State) (p : Port) (e : Entry) : s.isReady p e = true ↔ s.Candidate p e ∧ s.MayIssue p e := by
  rw [s.candidate_iff, ← s.unmet_eq_none_iff]
  simp [State.isReady]

/-! ### Ready revocation closes and rank operations (R18, R37, R64) -/

theorem State.revocationReady_iff (s : State) (b : Bank) : s.revocationReady b = true ↔ s.RevocationMayIssue b := by
  unfold State.revocationReady State.RevocationMayIssue
  cases (s.banks.look b).state <;> simp [State.closeHoldsMet, State.HoldsMet, State.met_iff]

/-- The holds of a rank operation other than an exit (R37). -/
theorem State.operationHoldsMet_iff (s : State) : s.operationHoldsMet = true ↔
    s.HoldMet .command ∧ s.HoldMet .rankOperation ∧ (∀ b, s.HoldMet (.bankOpen b)) ∧
      ∀ x ∈ s.holds.bursts, x.start + 4 ≤ s.time := by
  simp only [State.operationHoldsMet, Bool.and_eq_true, List.all_eq_true, mem_allBanks, true_imp_iff, beq_iff_eq, s.met_iff,
    s.burstCount_eq_zero]
  tauto

theorem State.operationReady_iff (s : State) (op : RankOperation) : s.operationReady op = true ↔ s.OperationMayIssue op := by
  cases op <;> simp [State.operationReady, State.OperationMayIssue, s.operationHoldsMet_iff, s.allClosed_iff, s.met_iff, and_assoc]

/-! ### Offered rank operations (Table 4-2) -/

/-- The rank answers idle where it is (R97). -/
theorem State.rankIdle_iff (s : State) : s.rankIdle = true ↔ s.Idle := by
  have space (x : ReadSpace) : x.inUse = false ↔ x = .free := by cases x <;> simp [ReadSpace.inUse]
  have slot (x : WriteSlot) : x.isIssued = false ↔ ∀ tag epoch d, x ≠ .issued tag epoch d := by cases x <;> simp [WriteSlot.isIssued]
  have none (t : Table ReadSpace 4) : t.any ReadSpace.inUse = false ↔ ∀ i, t.look i = .free := by
    rw [← Bool.not_eq_true, Table.any_iff]
    simp [← space]
  have noIssue (t : Table WriteSlot 8) : t.any WriteSlot.isIssued = false ↔ ∀ i tag epoch d, t.look i ≠ .issued tag epoch d := by
    rw [← Bool.not_eq_true, Table.any_iff]
    simp [← slot]
  simp only [State.rankIdle, State.queuesEmpty, Bool.and_eq_true, decide_eq_true_eq, s.allClosed_iff, Bool.not_eq_true',
    DrainPhase.isActive_eq_false, Table.all_iff, List.isEmpty_iff, none, noIssue, State.Idle, and_assoc]

/-- The turn of a drain comes in SERVICE alone (R81). -/
theorem Drain.turn_eq_none {d : Drain} (h : d.phase ≠ .service) : d.turn = none := by
  unfold Drain.turn
  cases hd : d.phase <;> simp_all

/-- Out of SERVICE a drain offers nothing (R84). -/
theorem State.drainOffer_eq_none {s : State} (h : s.drain.phase ≠ .service) : s.drainOffer = none := by
  rw [State.drainOffer, Drain.turn_eq_none h]

/-- In SERVICE a drain offers what its turn asks for (R81, R94, R109, R129). -/
theorem State.drainOffer_service {s : State} (service : s.drain.phase = .service) (op : RankOperation) :
    s.drainOffer = some op ↔
      (.refresh false = op ∧ s.drain.purposes.refresh = true ∧ 0 < s.refresh.balance) ∨
        (.shortCalibration = op ∧ s.drain.purposes.refresh = false ∧ s.drain.purposes.calibrate = true ∧
          s.calibration.shortDue = true ∧ s.calibration.busy = .none) ∨
        (.selfRefreshEntry = op ∧ s.drain.purposes.refresh = false ∧ s.drain.purposes.calibrate = false ∧
          (s.drain.purposes.sleep = true ∨ s.drain.purposes.stop = true)) := by
  simp only [State.drainOffer, Drain.turn, service]
  cases s.drain.purposes.refresh with
  | true => by_cases owed : 0 < s.refresh.balance <;> simp [owed]
  | false =>
    cases s.drain.purposes.calibrate with
    | true => by_cases due : s.calibration.shortDue = true ∧ s.calibration.busy = .none <;> simp [due]
    | false => cases s.drain.purposes.sleep <;> cases s.drain.purposes.stop <;> simp

/-- The operations that a drain asks for (R81). -/
def RankOperation.serves : RankOperation → Bool
  | .refresh pullIn => !pullIn
  | .shortCalibration => true
  | .selfRefreshEntry => true
  | .longCalibration | .modeSet _ | .powerDownEntry | .powerDownExit | .selfRefreshExit => false

/-- Where drains are served, a drain offers exactly what Table 4-2 has of its operations (R81, R84). -/
theorem State.drainOffer_iff {s : State} (state : s.rank.state = .active ∨ s.rank.state = .stopping) (op : RankOperation) :
    s.drainOffer = some op ↔ op.serves = true ∧ s.Offers op := by
  have serves : s.Serves ↔ s.drain.phase = .service := and_iff_left state
  by_cases service : s.drain.phase = .service
  · rw [State.drainOffer_service service]
    rcases op with (_ | _) | _ | _ | (_ | _) | _ | _ | _ | _ <;> simp [RankOperation.serves, State.Offers, serves, service]
  · rw [State.drainOffer_eq_none service]
    rcases op with (_ | _) | _ | _ | (_ | _) | _ | _ | _ | _ <;> simp [RankOperation.serves, State.Offers, serves, service]

/-- An ACTIVE rank without a drain offers exactly what Table 4-2 has of the pull-in and of power-down (R97, R125). -/
theorem State.idleOffer_iff {s : State} (state : s.rank.state = .active) (phase : s.drain.phase = .none) (op : RankOperation) :
    s.idleOffer = some op ↔ (op = .refresh true ∨ op = .powerDownEntry) ∧ s.Offers op := by
  have pullIn : (s.rankIdle && s.pullInPossible) = true ↔ s.Idle ∧ -(s.prof.pim : Int) < s.refresh.balance := by
    rw [Bool.and_eq_true, s.rankIdle_iff, State.pullInPossible, decide_eq_true_eq]
  unfold State.idleOffer
  by_cases possible : s.Idle ∧ -(s.prof.pim : Int) < s.refresh.balance
  · rw [if_pos (pullIn.mpr possible)]
    rcases op with (_ | _) | _ | _ | (_ | _) | _ | _ | _ | _ <;> simp [State.Offers, possible]
  · rw [if_neg (mt pullIn.mp possible)]
    by_cases expired : s.rank.idle = .expired <;>
      rcases op with (_ | _) | _ | _ | (_ | _) | _ | _ | _ | _ <;> simp [State.Offers, possible, expired, state, phase]

/-- What an ACTIVE rank is offered comes of a drain in SERVICE or, with none, of its idleness (Table 4-2). -/
theorem State.Offers.of_active {s : State} {op : RankOperation} (h : s.Offers op) (state : s.rank.state = .active) :
    (op.serves = true ∧ s.drain.phase = .service) ∨ ((op = .refresh true ∨ op = .powerDownEntry) ∧ s.drain.phase = .none) := by
  rcases op with (_ | _) | _ | _ | (_ | _) | _ | _ | _ | _ <;>
    simp_all [State.Offers, RankOperation.serves, State.Serves, State.Idle]

/-- What a STOPPING rank is offered comes of a drain (Table 4-2). -/
theorem State.Offers.of_stopping {s : State} {op : RankOperation} (h : s.Offers op) (state : s.rank.state = .stopping) :
    op.serves = true := by
  rcases op with (_ | _) | _ | _ | (_ | _) | _ | _ | _ | _ <;>
    simp_all [State.Offers, RankOperation.serves, State.Idle]

/-- In the rank states that serve no drain and are not idle, the rank state alone says what is offered (Table 4-2). -/
theorem State.offers_iff_of_other {s : State} (notActive : s.rank.state ≠ .active) (notStopping : s.rank.state ≠ .stopping)
    (op : RankOperation) : s.operationOffer = some op ↔ s.Offers op := by
  have quiet : ¬s.Serves := fun ⟨_, state⟩ => state.elim notActive notStopping
  have busy : ¬s.Idle := fun ⟨state, _⟩ => notActive state
  cases hs : s.rank.state with
  | active => exact absurd hs notActive
  | stopping => exact absurd hs notStopping
  | powerDown r =>
    cases hp : r.passed <;> rcases op with (_ | _) | _ | _ | (_ | _) | _ | _ | _ | _ <;>
      simp [State.operationOffer, State.Offers, hs, hp, quiet, busy, State.reached]
  | bringUp path phase =>
    rcases phase with _ | _ | (_ | _) | (_ | _ | _) | (_ | _) <;>
      rcases op with (_ | _) | _ | _ | (_ | _) | _ | _ | _ | _ <;>
        simp [State.operationOffer, State.Offers, hs, quiet, busy, BringUpPhase.offer]
  | _ =>
    rcases op with (_ | _) | _ | _ | (_ | _) | _ | _ | _ | _ <;> simp [State.operationOffer, State.Offers, hs, quiet, busy]

/-- The rank operations offered are those of Table 4-2. -/
theorem State.operationOffer_iff (s : State) (op : RankOperation) : s.operationOffer = some op ↔ s.Offers op := by
  by_cases active : s.rank.state = .active
  · by_cases phase : s.drain.phase = .none
    · have offer : s.operationOffer = s.idleOffer := by simp [State.operationOffer, active, phase, DrainPhase.isActive]
      rw [offer, State.idleOffer_iff active phase]
      exact ⟨And.right, fun h => ⟨(h.of_active active).elim (fun ⟨_, service⟩ => nomatch phase.symm.trans service) And.left, h⟩⟩
    · have offer : s.operationOffer = s.drainOffer := by
        simp [State.operationOffer, active, (Bool.not_eq_false _).mp (mt (DrainPhase.isActive_eq_false _).mp phase)]
      rw [offer, State.drainOffer_iff (.inl active)]
      exact ⟨And.right, fun h => ⟨(h.of_active active).elim And.left (fun ⟨_, idle⟩ => absurd idle phase), h⟩⟩
  · by_cases stopping : s.rank.state = .stopping
    · have offer : s.operationOffer = s.drainOffer := by simp [State.operationOffer, stopping]
      rw [offer, State.drainOffer_iff (.inr stopping)]
      exact ⟨And.right, fun h => ⟨h.of_stopping stopping, h⟩⟩
    · exact State.offers_iff_of_other active stopping op

/-! ### What is granted (R60 to R67) -/

theorem State.granted_request {s : State} {aged : Bool} {p : Port} {e : Entry} (h : s.grantedRequest = some (aged, p, e)) :
    s.Candidate p e ∧ s.MayIssue p e := by
  obtain ⟨-, -, front, candidate, met⟩ := s.grantedRequest_spec aged p e h
  exact ⟨(s.candidate_iff p e).mpr ⟨by rw [State.isFront, front, beq_self_eq_true], candidate⟩, (s.unmet_eq_none_iff p e).mp met⟩

theorem State.granted_revocation {s : State} {b : Bank} (h : s.grantedRevocation = some b) : s.RevocationMayIssue b :=
  (s.revocationReady_iff b).mp (s.grantedRevocation_spec b h)

theorem State.granted_operation {s : State} {op : RankOperation} (h : s.grantedOperation = some op) :
    s.Offers op ∧ s.OperationMayIssue op := by
  obtain ⟨offered, ready⟩ := s.grantedOperation_spec op h
  exact ⟨(s.operationOffer_iff op).mp offered, (s.operationReady_iff op).mp ready⟩

/-- A grant by its kind. -/
theorem State.granted_of_grant {s : State} {g : Grant} (h : s.grant = some g) :
    match g with
    | .operation op => s.grantedOperation = some op
    | .revocation b => s.grantedRevocation = some b
    | .request aged p e => s.grantedRequest = some (aged, p, e) := by
  cases g <;> simp [State.grantedOperation, State.grantedRevocation, State.grantedRequest, h]

/-- A rank OFFLINE or WAKING is offered no rank operation (R72). -/
theorem State.Offers.rank_state {s : State} {op : RankOperation} (h : s.Offers op) :
    s.rank.state ≠ .offline ∧ ∀ t, s.rank.state ≠ .waking t := by
  rw [← s.operationOffer_iff] at h
  constructor <;> intros <;> intro state <;> simp [State.operationOffer, state] at h

/-- A ROW_OPEN is issued only with no drain active (R77). -/
theorem exec_rowOpenIssued_of_drain {s : State} (active : s.drain.phase ≠ .none) : exec .rowOpenIssued s = .next s := by
  change execRowOpenIssued s = .next s
  unfold execRowOpenIssued
  split
  · rfl
  · rename_i aged p e granted
    split
    · rename_i row kind
      obtain ⟨-, -, -, conditions⟩ := State.granted_request granted
      rw [kind] at conditions
      exact absurd conditions.1 active
    all_goals rfl

/-- A COL_READ is issued only after the lock window (R113). -/
theorem exec_colReadIssued_of_lock {s : State} {t : Nat} (locked : s.calibration.lock = some t) (ahead : s.time < t) :
    exec .colReadIssued s = .next s := by
  change execColReadIssued s = .next s
  unfold execColReadIssued
  split
  · rfl
  · rename_i aged p e granted
    split
    · rename_i row column ac kind
      obtain ⟨-, -, -, conditions⟩ := State.granted_request granted
      rw [kind] at conditions
      exact absurd (conditions.1 t locked) (Nat.not_le.mpr ahead)
    all_goals rfl

end Sys2Proof.Machine

namespace Sys2Proof.Proofs

open Sys2Proof Sys2Proof.Machine

/-- Settles O8: each answer about readiness as the condition it stands for, and what a grant then says of the rank. -/
theorem nothingIssuedAgainstTheRank : Obligations.NothingIssuedAgainstTheRank := by
  intro s
  refine ⟨exec_rowOpenIssued_of_drain, fun t => exec_colReadIssued_of_lock, fun state g granted => ?_, s.isReady_iff,
    s.revocationReady_iff, s.operationOffer_iff, s.operationReady_iff, fun aged p e => State.granted_request,
    fun b => State.granted_revocation, fun op => State.granted_operation⟩
  have kind := State.granted_of_grant granted
  cases g with
  | operation op =>
    obtain ⟨offline, waking⟩ := (State.granted_operation kind).1.rank_state
    exact (state.elim offline fun ⟨t, is⟩ => waking t is).elim
  | revocation b => exact ⟨b, rfl⟩
  | request aged p e =>
    obtain ⟨-, active, -⟩ := State.granted_request kind
    rcases state with is | ⟨t, is⟩ <;> exact nomatch active.symm.trans is

end Sys2Proof.Proofs
end

section
/-! PROOFS. The command hold that every issue raises, and the arbiter that grants nothing while it is pending (R26, R60): O6. -/

namespace Sys2Proof.Machine

/-! ### The command hold is met for every grant (R37, Table 2-4) -/

/-- Every request is tested for the command hold (Table 2-4). -/
theorem Request.command_mem_tested (b : Bank) (r : Request) : HoldId.command ∈ r.tested b := by
  cases r <;> simp [Request.tested]

/-- Nothing is granted while the command hold is pending (Table 2-4). -/
theorem State.grant_eq_none {s : State} (pending : s.met .command = false) : s.grant = none := by
  have unmet : ¬s.HoldMet .command := by rw [← s.met_iff, pending]; decide
  cases granted : s.grant with
  | none => rfl
  | some g =>
    have kind := State.granted_of_grant granted
    cases g with
    | operation op => exact absurd (State.granted_operation kind).2.1 unmet
    | revocation b => exact absurd ((State.granted_revocation kind).2 .command (by simp)) unmet
    | request aged p e =>
      obtain ⟨-, -, holds, -⟩ := State.granted_request kind
      exact absurd (holds .command (Request.command_mem_tested _ _)) unmet

/-! ### The command hold is pending after every issue (R26) -/

/-- A hold is met as rank time and the Hold Unit's holds say (R24). -/
theorem State.met_congr {s t : State} (id : HoldId) (time : t.time = s.time) (holds : t.holds.holds = s.holds.holds) :
    t.met id = s.met id := by
  rw [State.met, State.met, time, holds]

/-- A raise beyond now leaves its hold pending, and no raise makes a pending hold met (R24). -/
theorem State.raise_not_met (s : State) (id x : HoldId) (n : Nat) (h : s.met x = false ∨ (x = id ∧ 0 < n)) :
    (s.raise id n).met x = false := by
  simp only [State.met, State.raise_hold, State.raise_frame] at h ⊢
  by_cases same : x = id
  · subst same
    rw [if_pos rfl]
    cases hold : s.holds.holds.hold x with
    | none =>
      rcases h with met | ⟨-, pos⟩
      · rw [hold] at met
        exact nomatch met
      · rw [Hold.raise, if_pos (by omega)]
        simp [Hold.metAt]
        omega
    | some u =>
      simp only [hold, Hold.raise, Hold.metAt, decide_eq_false_iff_not, Nat.not_le, true_and] at h ⊢
      omega
  · rw [if_neg same]
    exact h.resolve_right fun both => same both.1

/-- A command that raises the command hold beyond now leaves it pending (R26). -/
theorem State.drive_not_met (s : State) (c : BusCommand) {l : List (HoldId × Nat)} {n : Nat} (raised : (.command, n) ∈ l)
    (pos : 0 < n) : (s.drive c l).met .command = false := by
  obtain ⟨before, after, rfl⟩ := List.append_of_mem raised
  rw [State.drive, State.raiseAll, List.foldl_append, List.foldl_cons]
  exact foldl_holds (fun u : State => u.met .command = false) _ (fun u x pending => u.raise_not_met x.1 .command x.2 (.inl pending))
    after _ (State.raise_not_met _ _ _ n (.inr ⟨rfl, pos⟩))

/-- An issue drives its command, raises the command hold, and leaves the holds at that (R26, R68). -/
theorem State.not_met_of_driven {s t : State} (c : BusCommand) {l : List (HoldId × Nat)} (raised : (.command, 1) ∈ l)
    (time : t.time = s.time) (holds : t.holds.holds = (s.drive c l).holds.holds) : t.met .command = false := by
  rw [State.met_congr .command (time.trans (by simp)) holds]
  exact s.drive_not_met c raised (by decide)

/-- What the issue of a request leaves of the command hold (R26). -/
theorem exec_request_not_met {s t : State} {aged : Bool} {p : Port} {e : Entry} (granted : s.grantedRequest = some (aged, p, e))
    (answer : exec e.request.command s = .next t) (time : t.time = s.time) : t.met .command = false := by
  cases kind : e.request with
  | rowOpen row =>
    rw [kind, Request.command, exec_rowOpenIssued granted kind, Host.Outcome.next.injEq] at answer
    refine State.not_met_of_driven (.rowOpen e.bank row) (l := openRaises s.prof e.bank) (by simp [openRaises]) time ?_
    simp [← answer, State.issueRowOpen]
  | colRead row column ac =>
    rw [kind, Request.command, exec_colReadIssued granted kind, Host.Outcome.next.injEq] at answer
    refine State.not_met_of_driven (.readColumn e.bank column ac) (l := readRaises s.prof e.bank ac) (by simp [readRaises]) time ?_
    simp [← answer, State.issueColRead, State.addBurst]
  | colWrite row column ac slot =>
    rw [kind, Request.command, exec_colWriteIssued granted kind, Host.Outcome.next.injEq] at answer
    refine State.not_met_of_driven (.writeColumn e.bank column ac) (l := writeRaises s.prof e.bank ac) (by simp [writeRaises]) time ?_
    simp [← answer, State.issueColWrite, State.addBurst]
  | rowClose =>
    rw [kind, Request.command, exec_rowCloseIssued granted kind, Host.Outcome.next.injEq] at answer
    refine State.not_met_of_driven (.close e.bank) (l := closeRaises s.prof e.bank) (by simp [closeRaises]) time ?_
    simp [← answer, State.issueRowClose]

/-- What the issue of a revocation close leaves of the command hold (R26). -/
theorem exec_revocation_not_met {s t : State} {b : Bank} (granted : s.grantedRevocation = some b)
    (answer : exec .revocationCloseIssued s = .next t) (time : t.time = s.time) : t.met .command = false := by
  obtain ⟨⟨r, revoking⟩, -⟩ := State.granted_revocation granted
  rw [exec_revocationCloseIssued granted revoking, Host.Outcome.next.injEq] at answer
  refine State.not_met_of_driven (.close b) (l := closeRaises s.prof b) (by simp [closeRaises]) time ?_
  rw [← answer, State.issueRevocation]
  split <;> simp

/-! ### The rank operations as commands (R69) -/

theorem exec_refreshIssued {s : State} {pullIn : Bool} (granted : s.grantedOperation = some (.refresh pullIn)) :
    exec .refreshIssued s = .next (s.issueRefresh pullIn) := by
  simp only [exec, execRefreshIssued, granted]

theorem exec_shortCalibrationIssued {s : State} (granted : s.grantedOperation = some .shortCalibration) :
    exec .shortCalibrationIssued s = .next s.issueShortCalibration := if_pos granted

theorem exec_longCalibrationIssued {s : State} (granted : s.grantedOperation = some .longCalibration) :
    exec .longCalibrationIssued s = .next s.issueLongCalibration := if_pos granted

theorem exec_modeSetIssued {s : State} {w : ModeWord} (granted : s.grantedOperation = some (.modeSet w)) :
    exec .modeSetIssued s = .next (s.issueModeSet w) := by
  simp only [exec, execModeSetIssued, granted]

theorem exec_powerDownEntryIssued {s : State} (granted : s.grantedOperation = some .powerDownEntry) :
    exec .powerDownEntryIssued s = .next s.issuePowerDownEntry := if_pos granted

theorem exec_powerDownExitIssued {s : State} (granted : s.grantedOperation = some .powerDownExit) :
    exec .powerDownExitIssued s = .next s.issuePowerDownExit := if_pos granted

theorem exec_selfRefreshEntryIssued {s : State} (granted : s.grantedOperation = some .selfRefreshEntry) :
    exec .selfRefreshEntryIssued s = .next s.issueSelfRefreshEntry := if_pos granted

theorem exec_selfRefreshExitIssued {s : State} (granted : s.grantedOperation = some .selfRefreshExit) :
    exec .selfRefreshExitIssued s = .next s.issueSelfRefreshExit := if_pos granted

/-- The exit's part in the rank touches no hold (R120, R131). -/
@[simp] theorem State.exitRank_holds (s : State) : s.exitRank.holds = s.holds := by
  unfold State.exitRank
  split <;> simp

/-- A refresh counted touches no hold (R95, R99). -/
@[simp] theorem State.refreshDone_holds (s : State) (pullIn : Bool) : (s.refreshDone pullIn).holds = s.holds := by
  have counted (u : State) : u.countRefresh.holds = u.holds := by
    unfold State.countRefresh
    split <;> simp
  rw [State.refreshDone, apply_ite State.holds]
  simp [counted]

/-- What the issue of a rank operation leaves of the command hold (R26, R35, R36). -/
theorem exec_operation_not_met {s t : State} {op : RankOperation} (granted : s.grantedOperation = some op)
    (answer : exec op.command s = .next t) (time : t.time = s.time) : t.met .command = false := by
  have bus (n : Nat) : (HoldId.command, 1) ∈ busRaises n := List.mem_cons_self
  cases op with
  | refresh pullIn =>
    rw [RankOperation.command, exec_refreshIssued granted, Host.Outcome.next.injEq] at answer
    refine State.not_met_of_driven .refresh (l := refreshRaises s.prof) (by simp [refreshRaises]) time ?_
    simp [← answer, State.issueRefresh]
  | shortCalibration =>
    rw [RankOperation.command, exec_shortCalibrationIssued granted, Host.Outcome.next.injEq] at answer
    refine State.not_met_of_driven .shortCalibration (bus s.prof.tCS) time ?_
    simp [← answer, State.issueShortCalibration]
  | longCalibration =>
    rw [RankOperation.command, exec_longCalibrationIssued granted, Host.Outcome.next.injEq] at answer
    refine State.not_met_of_driven .longCalibration (bus s.prof.tCL) time ?_
    rw [← answer, State.issueLongCalibration]
    split <;> simp
  | modeSet w =>
    rw [RankOperation.command, exec_modeSetIssued granted, Host.Outcome.next.injEq] at answer
    refine State.not_met_of_driven (.modeSet w (s.prof.modeValue w)) (bus s.prof.tMS) time ?_
    rw [← answer, State.issueModeSet]
    split <;> simp
  | powerDownEntry =>
    rw [RankOperation.command, exec_powerDownEntryIssued granted, Host.Outcome.next.injEq] at answer
    refine State.not_met_of_driven .powerDownEntry (bus 1) time ?_
    simp [← answer, State.issuePowerDownEntry]
  | powerDownExit =>
    rw [RankOperation.command, exec_powerDownExitIssued granted, Host.Outcome.next.injEq] at answer
    refine State.not_met_of_driven .powerDownExit (bus s.prof.tPDX) time ?_
    rw [← answer, State.issuePowerDownExit]
    split <;> simp
  | selfRefreshEntry =>
    rw [RankOperation.command, exec_selfRefreshEntryIssued granted, Host.Outcome.next.injEq] at answer
    refine State.not_met_of_driven .selfRefreshEntry (bus 1) time ?_
    rw [← answer, State.issueSelfRefreshEntry]
    dsimp only
    repeat' split
    all_goals simp
  | selfRefreshExit =>
    rw [RankOperation.command, exec_selfRefreshExitIssued granted, Host.Outcome.next.injEq] at answer
    refine State.not_met_of_driven .selfRefreshExit (bus s.prof.tSRX) time ?_
    simp [← answer, State.issueSelfRefreshExit, State.exitReports]

end Sys2Proof.Machine

namespace Sys2Proof.Proofs

open Sys2Proof Sys2Proof.Machine

/-- The issue of a grant is no reset. -/
theorem grant_command_ne_powerOnReset (g : Grant) (lanes : Table Bool 4) (thot : Bool) : g.command ≠ .powerOnReset lanes thot := by
  cases g with
  | operation op => cases op <;> nofun
  | revocation b => nofun
  | request aged p e => cases h : e.request <;> simp [Grant.command, Request.command, h]

/-- Settles O6: every issue leaves the command hold pending, without which nothing is granted. -/
theorem oneGrantInAnyCk : Obligations.OneGrantInAnyCk := by
  intro s t g granted answer
  obtain ⟨time, -⟩ := partsChangedOnlyByTheirCommands g.command s t answer (grant_command_ne_powerOnReset g)
  refine ⟨time, State.grant_eq_none ?_⟩
  have kind := State.granted_of_grant granted
  cases g with
  | operation op => exact exec_operation_not_met kind answer time
  | revocation b => exact exec_revocation_not_met kind answer time
  | request aged p e => exact exec_request_not_met kind answer time

end Sys2Proof.Proofs
end

section
/-! PROOFS. What a happening sends, and the start of a drain said as `DrainStarted` says it (R75, R76, R79, R80). -/

namespace Sys2Proof.Machine

/-! ### Frames appended -/

/-- From `s` to `t` the outbound queues have frames of this kind appended, and nothing else of the links has changed. -/
def Appends (kind : OutFrame → Prop) (s t : State) : Prop :=
  ∀ p, ∃ frames : List OutFrame, (∀ f ∈ frames, kind f) ∧
    t.links.look p = { s.links.look p with outbound := (s.links.look p).outbound ++ frames }

section
variable {kind : OutFrame → Prop}

theorem Appends.of_links {s t : State} (links : t.links = s.links) : Appends kind s t :=
  fun p => ⟨[], nofun, by rw [links, List.append_nil]⟩

theorem Appends.trans {s t u : State} (h : Appends kind s t) (g : Appends kind t u) : Appends kind s u := by
  intro p
  obtain ⟨a, ha, first⟩ := h p
  obtain ⟨b, hb, second⟩ := g p
  refine ⟨a ++ b, fun f hf => (List.mem_append.mp hf).elim (ha f) (hb f), ?_⟩
  rw [second, first, List.append_assoc]

/-- Frames appended, and then nothing of the links changed. -/
theorem Appends.trans_links {s t u : State} (h : Appends kind s t) (links : u.links = t.links) : Appends kind s u :=
  h.trans (.of_links links)

theorem Appends.mono {kind' : OutFrame → Prop} {s t : State} (h : Appends kind s t) (weaker : ∀ f, kind f → kind' f) :
    Appends kind' s t := by
  intro p
  obtain ⟨frames, ha, links⟩ := h p
  exact ⟨frames, fun f hf => weaker f (ha f hf), links⟩

theorem Appends.ite {s t u : State} {P : Prop} [Decidable P] (h : Appends kind s t) (g : Appends kind s u) :
    Appends kind s (if P then t else u) := by
  split
  · exact h
  · exact g

theorem Appends.foldl {ι : Type} {f : State → ι → State} (h : ∀ u i, Appends kind u (f u i)) (l : List ι) (s : State) :
    Appends kind s (l.foldl f s) := by
  induction l generalizing s with
  | nil => exact .of_links rfl
  | cons i l ih => exact (h s i).trans (ih _)

/-- Frames appended change no session. -/
theorem Appends.epoch {s t : State} (h : Appends kind s t) (p : Port) : t.epoch? p = s.epoch? p := by
  obtain ⟨frames, -, links⟩ := h p
  rw [State.epoch?, links]
  rfl

/-- Frames sent first stay first in what follows (R145). -/
theorem Appends.sent {s t : State} {p : Port} {frames : List OutFrame}
    (sent : (s.links.look p).outbound ++ frames = (t.links.look p).outbound) {u : State} (h : Appends kind t u) : Sent s u p frames := by
  obtain ⟨more, -, links⟩ := h p
  rw [Sent, links, sent]
  exact ⟨more, rfl⟩

theorem State.send_appends (s : State) (p : Port) (f : OutFrame) (hf : kind f) : Appends kind s (s.send p f) := by
  intro q
  by_cases same : p = q
  · subst same
    exact ⟨[f], by simpa using hf, by simp [State.send, State.modLink]⟩
  · exact ⟨[], nofun, by simp [State.send, State.modLink, same]⟩

end

/-- A frame that is no DRAIN notice (R76). -/
def OutFrame.NoDrain (f : OutFrame) : Prop := ∀ n u, f.message ≠ .drain n u

theorem State.reply_appends (s : State) (p : Port) (tag : Byte) (m : Message) (h : ∀ n u, m ≠ .drain n u) :
    Appends OutFrame.NoDrain s (s.reply p tag m) := s.send_appends p _ h

theorem State.notice_appends (s : State) (p : Port) (m : Message) (h : ∀ n u, m ≠ .drain n u) :
    Appends OutFrame.NoDrain s (s.notice p m) := s.send_appends p _ h

theorem State.refuse_appends (s : State) (p : Port) (tag : Byte) (r : RefusalReason) :
    Appends OutFrame.NoDrain s (s.refuse p tag r) :=
  (s.reply_appends p tag (.refused r) nofun).trans_links (by simp [State.refuse])

/-- A notice to every current session (R103, R117). -/
theorem State.noticeAll_appends (s : State) (m : Message) (h : ∀ n u, m ≠ .drain n u) :
    Appends OutFrame.NoDrain s (s.noticeAll m) :=
  .foldl (fun u p => .ite (u.notice_appends p m h) (.of_links rfl)) allPorts s

/-! ### Evaluation sends no DRAIN (R10, R11, R52) -/

theorem State.setContention_appends (s : State) (b : Bank) : Appends OutFrame.NoDrain s (s.setContention b) := by
  unfold State.setContention
  split
  · exact .of_links rfl
  · split
    · exact .of_links rfl
    · have warned (u : State) (l : Lease) : Appends OutFrame.NoDrain u (u.sendWarning b l) :=
        (u.notice_appends l.owner.port (.leaseWarning b (l.deadline - u.time)) nofun).trans_links (by simp [State.sendWarning])
      have told (u v : State) (links : u.links = s.links) (p : Port) (n : Nat) :
          Appends OutFrame.NoDrain s (u.notice p (.contended b n)) := (Appends.of_links links).trans (u.notice_appends p _ nofun)
      exact .ite ((told _ s (by simp) _ _).trans (warned _ _)) (told _ s (by simp) _ _)
  · exact .of_links (by simp)

theorem State.answerFront_appends (s : State) (p : Port) (e : Entry) (a : Answer) :
    Appends OutFrame.NoDrain s (s.answerFront p e a) := by
  cases a with
  | openHit => exact (s.reply_appends p e.tag .openHit nofun).trans_links (by simp [State.answerFront])
  | closeMoot => exact (s.reply_appends p e.tag .closeMoot nofun).trans_links (by simp [State.answerFront])
  | refused r => exact (s.refuse_appends p e.tag r).trans_links (by simp [State.answerFront])

theorem State.evalRun_appends (p : Port) (b : Bank) (n : Nat) (s : State) : Appends OutFrame.NoDrain s (State.evalRun p b n s) := by
  induction n generalizing s with
  | zero => exact .of_links rfl
  | succ n ih =>
    unfold State.evalRun
    split
    · exact .of_links rfl
    · split
      · exact .of_links rfl
      · exact .ite (s.setContention_appends b) (.of_links rfl)
      · exact (s.answerFront_appends p _ _).trans (ih _)

theorem State.reevaluate_appends (s : State) (b : Bank) : Appends OutFrame.NoDrain s (s.reevaluate b) :=
  .foldl (fun u p => State.evalRun_appends p b _ u) allPorts s

/-! ### Grace end (R79, R80) -/

theorem State.graceRevoke_appends (s : State) (reason : RevokeReason) (b : Bank) :
    Appends OutFrame.NoDrain s (s.graceRevoke reason b) := by
  unfold State.graceRevoke
  split
  · exact .of_links rfl
  · exact (Appends.of_links (by simp)).trans (State.reevaluate_appends _ b)
  · exact .of_links rfl

theorem State.endGrace_appends (s : State) : Appends OutFrame.NoDrain s s.endGrace :=
  (Appends.foldl (fun u b => u.graceRevoke_appends s.drain.reason b) allBanks s).trans_links (by simp [State.endGrace])

/-- A bank is CLOSED after its moves exactly where it was before (R2). -/
theorem Moves.closed_iff {may : Owner → RevokeReason → Prop} {x y : BankState} (h : Moves may x y) : y = .closed ↔ x = .closed := by
  cases h <;> simp

/-- A bank that is not OPEN does not become so by its moves (R2). -/
theorem Moves.isOpen_eq_false {may : Owner → RevokeReason → Prop} {x y : BankState} (h : Moves may x y) (shut : x.isOpen = false) :
    y.isOpen = false := by
  cases h <;> first | rfl | exact nomatch shut

/-- One bank's part of grace end: it is revoked if it is OPEN, and every bank moves for no other reason (R79). -/
theorem State.graceRevoke_banks (s : State) (reason : RevokeReason) (b : Bank) :
    (∀ x, Moves (fun _ r => r = reason) (s.banks.look x).state ((s.graceRevoke reason b).banks.look x).state) ∧
      ((s.graceRevoke reason b).banks.look b).state.isOpen = false := by
  cases held : (s.banks.look b).state with
  | closed => simp [State.graceRevoke, held, Moves.refl, BankState.isOpen]
  | revoking r => simp [State.graceRevoke, held, Moves.refl, BankState.isOpen]
  | opened l =>
    let v := (s.revoke b reason).handFault .drainRevoke (some l.owner.port) (some b) (.reason reason)
    have ends : s.graceRevoke reason b = v.reevaluate b := by simp only [State.graceRevoke, held, v]
    have banks : v.banks = s.banks.put b { s.banks.look b with state := .revoking ⟨l.row, l.owner, l.contended, reason⟩ } := by
      simp [v, s.revoke_opened b reason l held]
    have evaluated := v.reevaluate_evaluated b
    have moved (x : Bank) : Moves (fun _ r => r = reason) (v.banks.look x).state ((v.reevaluate b).banks.look x).state := by
      by_cases hx : x = b
      · subst hx
        exact evaluated.contention.moves _
      · rw [evaluated.others x hx]
        exact .refl _
    rw [ends]
    refine ⟨fun x => Moves.trans ?_ (moved x), (moved b).isOpen_eq_false (by rw [banks, Table.look_put_same]; rfl)⟩
    rw [banks, Table.look_put]
    split
    · rename_i same
      rw [← same, held]
      exact .revoked l _ rfl rfl id rfl
    · exact .refl _

/-- Grace end over some banks (R79). -/
theorem State.graceRevokes_banks (reason : RevokeReason) (l : List Bank) (s : State) :
    (∀ x, Moves (fun _ r => r = reason) (s.banks.look x).state ((l.foldl (State.graceRevoke reason) s).banks.look x).state) ∧
      ∀ b ∈ l, ((l.foldl (State.graceRevoke reason) s).banks.look b).state.isOpen = false := by
  induction l generalizing s with
  | nil => exact ⟨fun x => .refl _, nofun⟩
  | cons a l ih =>
    obtain ⟨moved, shut⟩ := s.graceRevoke_banks reason a
    obtain ⟨rest, others⟩ := ih (s.graceRevoke reason a)
    exact ⟨fun x => (moved x).trans (rest x), List.forall_mem_cons.mpr ⟨(rest a).isOpen_eq_false shut, others⟩⟩

/-- Every OPEN bank is revoked at grace end, for the drain's reason, and no bank closes (R79). -/
theorem State.endGrace_banks (s : State) (b : Bank) :
    Moves (fun _ r => r = s.drain.reason) (s.banks.look b).state (s.endGrace.banks.look b).state ∧
      (s.endGrace.banks.look b).state.isOpen = false := by
  obtain ⟨moved, shut⟩ := State.graceRevokes_banks s.drain.reason allBanks s
  have same : s.endGrace.banks = (allBanks.foldl (State.graceRevoke s.drain.reason) s).banks := by simp [State.endGrace]
  rw [same]
  exact ⟨moved b, shut b (mem_allBanks b)⟩

/-- What grace end makes of an OPEN bank (R79). -/
theorem State.endGrace_opened (s : State) (b : Bank) (l : Lease) (held : (s.banks.look b).state = .opened l) :
    ∃ r, (s.endGrace.banks.look b).state = .revoking r ∧ r.row = l.row ∧ r.owner = l.owner ∧ r.reason = s.drain.reason := by
  obtain ⟨moved, shut⟩ := s.endGrace_banks b
  rw [held] at moved
  revert moved shut
  generalize (s.endGrace.banks.look b).state = x
  intro moved shut
  cases moved with
  | opened => exact nomatch shut
  | revoked _ r row owner _ reason => exact ⟨r, rfl, row, owner, reason⟩

/-- Completion of a drain that waits for its banks (R80). -/
theorem State.completeDrain_drain (s : State) (waits : (∃ t, s.drain.phase = .grace t) ∨ s.drain.phase = .closing) :
    s.completeDrain.drain = { s.drain with phase := if s.allClosed then .service else s.drain.phase } := by
  unfold State.completeDrain
  rcases waits with ⟨t, grace⟩ | closing
  · rw [grace]
    cases s.allClosed <;> simp [State.setDrain, ← grace]
  · rw [closing]
    cases s.allClosed <;> simp [State.setDrain, ← closing]

/-- The drain after grace end: CLOSING, or in SERVICE with all banks CLOSED (R79, R80). -/
theorem State.endGrace_drain (s : State) :
    s.endGrace.drain = { s.drain with phase := if s.allClosed then .service else .closing } := by
  have kept : (allBanks.foldl (State.graceRevoke s.drain.reason) s).drain = s.drain :=
    foldl_keeps State.drain _ (fun u b => by simp) allBanks s
  have closed : (allBanks.foldl (State.graceRevoke s.drain.reason) s).allClosed = s.allClosed := by
    rw [Bool.eq_iff_iff, State.allClosed_iff, State.allClosed_iff]
    exact forall_congr' fun b => ((State.graceRevokes_banks s.drain.reason allBanks s).1 b).closed_iff
  rw [State.endGrace]
  revert kept closed
  generalize allBanks.foldl (State.graceRevoke s.drain.reason) s = v
  intro kept closed
  rw [State.completeDrain_drain _ (.inr rfl), ← closed, ← kept]
  rfl

/-! ### The start of a drain (R75, R76) -/

/-- The drain as its start sets it, before grace end or completion (R75). -/
def State.grantsGrace (s : State) (u : Purpose) (urgent : Bool) : State :=
  s.setDrain ⟨.grace (s.time + s.prof.tGR), Purposes.empty.add u, urgent⟩

/-- The start of a drain: grace end at once where grace is cut short or tGR is 0, else completion (R75). -/
theorem State.beginDrain_eq (s : State) (u : Purpose) (urgent : Bool) :
    s.beginDrain u urgent = if u.cuts urgent = true ∨ s.prof.tGR = 0 then (s.grantsGrace u urgent).endGrace
      else (s.grantsGrace u urgent).completeDrain := by
  have test : (u.cuts urgent || s.prof.tGR == 0) = true ↔ u.cuts urgent = true ∨ s.prof.tGR = 0 := by simp
  exact if_congr test rfl rfl

/-- The drain that has started (R75). -/
theorem State.beginDrain_drain (s : State) (u : Purpose) (urgent : Bool) :
    (s.beginDrain u urgent).drain =
      ⟨if s.allClosed then .service else if u.cuts urgent = true ∨ s.prof.tGR = 0 then .closing else .grace (s.time + s.prof.tGR),
        Purposes.empty.add u, urgent⟩ := by
  rw [s.beginDrain_eq, apply_ite State.drain, State.endGrace_drain, State.completeDrain_drain _ (.inl ⟨_, rfl⟩)]
  by_cases atOnce : u.cuts urgent = true ∨ s.prof.tGR = 0
  · rw [if_pos atOnce, if_pos atOnce]
    rfl
  · rw [if_neg atOnce, if_neg atOnce]
    rfl

/-- The port's current session owns an OPEN bank, as the DRAIN notices ask (R76). -/
theorem State.ownsOpen_iff (s : State) (p : Port) : s.ownsOpen p = true ↔ s.hasOpen p := by
  unfold State.ownsOpen State.hasOpen
  cases session : s.epoch? p with
  | none => simp
  | some e =>
    simp only [List.any_eq_true, mem_allBanks, true_and, Bool.and_eq_true, State.owns, beq_iff_eq, Option.some.injEq]
    refine exists_congr fun b => ?_
    cases (s.banks.look b).state with
    | closed => simp [BankState.isOpen]
    | revoking r => simp [BankState.isOpen]
    | opened l =>
      obtain ⟨row, ⟨port, epoch⟩, deadline, extensions, warned, contended⟩ := l
      simp [BankState.isOpen, BankState.owner?, eq_comm]

/-- One notice to each port of a list. -/
theorem State.notices_links (m : Message) (l : List Port) (nodup : l.Nodup) (s : State) (q : Port) :
    (l.foldl (fun s p => s.notice p m) s).links.look q =
      if q ∈ l then { s.links.look q with outbound := (s.links.look q).outbound ++ [⟨s.frameEpoch q, 0, m⟩] }
      else s.links.look q := by
  induction l generalizing s with
  | nil => simp
  | cons p l ih =>
    rw [List.nodup_cons] at nodup
    rw [List.foldl_cons, ih nodup.2]
    by_cases same : q = p
    · subst same
      rw [if_neg nodup.1, if_pos List.mem_cons_self]
      simp [State.notice, State.send, State.modLink]
    · have link : (s.notice p m).links.look q = s.links.look q := by
        simp [State.notice, State.send, State.modLink, Ne.symm same]
      have epoch : (s.notice p m).frameEpoch q = s.frameEpoch q := by simp [State.frameEpoch, State.epoch?, link]
      rw [link, epoch]
      simp [same]

/-- The DRAIN notices of a start: one to each port whose session owned an OPEN bank, none to another (R76). -/
theorem State.sendDrain_links (s old : State) (u : Purpose) (urgent : Bool) (p : Port) :
    (s.sendDrain old u urgent).links.look p =
      if old.ownsOpen p then { s.links.look p with
        outbound := (s.links.look p).outbound ++
          [⟨s.frameEpoch p, 0, .drain (if u.cuts urgent then 0 else old.prof.tGR) (Purposes.empty.add u)⟩] }
      else s.links.look p := by
  rw [State.sendDrain, State.notices_links _ _ (List.Nodup.filter _ (by decide))]
  simp [mem_allPorts]

theorem State.beginDrain_appends (s : State) (u : Purpose) (urgent : Bool) : Appends OutFrame.NoDrain s (s.beginDrain u urgent) :=
  .ite ((Appends.of_links (by simp)).trans (State.endGrace_appends _)) (.of_links (by simp))

/-- A drain that starts has started as `DrainStarted` says (R75, R76, R79, R80). -/
theorem State.startDrain_started (s : State) (u : Purpose) (urgent : Bool) :
    DrainStarted (Purposes.empty.add u) urgent (u.cuts urgent) s (s.startDrain u urgent) := by
  have drain : (s.startDrain u urgent).drain = (s.beginDrain u urgent).drain := by simp [State.startDrain]
  have banks : (s.startDrain u urgent).banks = (s.beginDrain u urgent).banks := by simp [State.startDrain]
  rw [DrainStarted, drain, banks, s.beginDrain_drain]
  refine ⟨fun closed => by rw [if_pos (s.allClosed_iff.mpr closed)], fun ⟨b, other⟩ => ?_, fun atOnce b l held => ?_,
    fun graced => ?_, fun p => ?_⟩
  · have some : ¬s.allClosed = true := fun all => other (s.allClosed_iff.mp all b)
    rw [if_neg some]
    exact ⟨fun atOnce => by rw [if_pos atOnce], fun graced => by rw [if_neg graced]⟩
  · rw [s.beginDrain_eq, if_pos atOnce]
    exact (s.grantsGrace u urgent).endGrace_opened b l held
  · rw [s.beginDrain_eq, if_neg graced]
    simp [State.grantsGrace]
  · have appends := s.beginDrain_appends u urgent
    have session : (s.beginDrain u urgent).frameEpoch p = s.frameEpoch p := by rw [State.frameEpoch, appends.epoch]; rfl
    obtain ⟨others, quiet, links⟩ := appends p
    have sent := State.sendDrain_links (s.beginDrain u urgent) s u urgent p
    refine ⟨others, quiet, fun none => ?_, fun e current owns => ?_⟩
    · rw [if_neg (mt (s.ownsOpen_iff p).mp none), links] at sent
      exact congrArg PortLink.outbound sent
    · rw [if_pos ((s.ownsOpen_iff p).mpr owns), links, session, State.frameEpoch, current] at sent
      exact congrArg PortLink.outbound sent

/-- A drain that starts after other effects of its happening have left the banks, the sessions and the profile, and have sent no
DRAIN, has started for the happening (R76). -/
theorem DrainStarted.of_before {u : Purposes} {urgent cut : Bool} {s v t : State} (h : DrainStarted u urgent cut v t)
    (time : v.time = s.time) (profile : v.profile = s.profile) (banks : v.banks = s.banks) (before : Appends OutFrame.NoDrain s v) :
    DrainStarted u urgent cut s t := by
  have prof : v.prof = s.prof := congrArg ProfileStore.active profile
  have owns (p : Port) : v.hasOpen p ↔ s.hasOpen p := by simp only [State.hasOpen, banks, before.epoch]
  rw [DrainStarted, time, prof, banks] at h
  obtain ⟨closed, other, revoked, graced, links⟩ := h
  refine ⟨closed, other, revoked, graced, fun p => ?_⟩
  obtain ⟨first, quiet, link⟩ := before p
  obtain ⟨others, silent, none, some⟩ := links p
  refine ⟨first ++ others, fun f hf => (List.mem_append.mp hf).elim (quiet f) (silent f), fun lacks => ?_, fun e current has => ?_⟩
  · rw [none (mt (owns p).mp lacks), link, List.append_assoc]
  · rw [some e ((before.epoch p).trans current) ((owns p).mpr has), link]
    simp only [List.append_assoc]

/-- What follows a start and leaves its drain, banks and links is no part of it. -/
theorem DrainStarted.of_after {u : Purposes} {urgent cut : Bool} {s t t' : State} (h : DrainStarted u urgent cut s t)
    (drain : t'.drain = t.drain) (banks : t'.banks = t.banks) (links : t'.links = t.links) : DrainStarted u urgent cut s t' := by
  rw [DrainStarted, drain, banks, links]
  exact h

end Sys2Proof.Machine
end

section
/-! PROOFS. The issues of the calibrations, the mode sets and the self-refresh entry (R35, R36, R68, R107, R110, R119, R120, R123,
R130): O50 and O52. -/

namespace Sys2Proof.Machine

/-! ### What the rank operations share (R68) -/

/-- The holds that are raised are those of the Hold Unit. -/
theorem OnlyRaised.of_holds {l : List (HoldId × Nat)} {s u t : State} (h : OnlyRaised l s u) (holds : t.holds = u.holds) :
    OnlyRaised l s t := by
  rw [OnlyRaised, Raised, holds]
  exact h

/-- What stands when a rank operation has been driven: its command on the bus, the Hold Unit as given, the grant recorded (R68,
R73). -/
def State.operating (s : State) (c : BusCommand) (holds : HoldUnit) : State :=
  { s with holds := holds, arbiter := { s.arbiter with lastGrant := .rankOperation, commandBus := some c } }

/-- A rank operation that holds the bus alone drives its command and raises the command hold (R35, R36). -/
theorem State.drive_alone (s : State) (c : BusCommand) (n : Nat) :
    ∃ holds : HoldUnit, (∀ t : State, t.holds = holds → OnlyRaised [(.command, max 1 n)] s t) ∧
      s.drive c (busRaises n) = { s with holds := holds, arbiter := { s.arbiter with commandBus := some c } } := by
  obtain ⟨raised, -⟩ := s.drive_bus c n
  have holds : (s.drive c (busRaises n)).holds = { s.holds with holds := (s.drive c (busRaises n)).holds.holds } :=
    congrArg State.holds (s.drive_eq c (busRaises n))
  refine ⟨(s.drive c (busRaises n)).holds, fun t same => raised.of_holds same, ?_⟩
  rw [holds]
  exact s.drive_eq c (busRaises n)

/-- An issue that ends in the assessment of `u` raises what stands raised in `u`, and leaves `u` but for the assessment (R54, R124). -/
theorem State.settled_issue {s t u : State} {l : List (HoldId × Nat)} {holds : HoldUnit} (issued : t = u.settle)
    (raised : ∀ v : State, v.holds = holds → OnlyRaised l s v) (unit : u.holds = holds) :
    OnlyRaised l s t ∧ t.holds = holds ∧ t.bare = u.bare := by
  have same : t.holds = holds := by rw [issued, ← unit]; simp
  exact ⟨raised t same, same, by rw [issued, State.settle_bare]⟩

/-! ### Calibrations (R35, R107, R110) -/

/-- The issue of a short calibration: busy for tCS, and CALIBRATE served (R82, R110). -/
theorem State.issueShortCalibration_eq (s : State) :
    ∃ holds : HoldUnit, (∀ t : State, t.holds = holds → OnlyRaised [(.command, max 1 s.prof.tCS)] s t) ∧
      s.issueShortCalibration = State.settle { s.operating .shortCalibration holds with
        calibration := { s.calibration with shortDue := false, busy := .short (s.time + s.prof.tCS) }
        drain := s.drain.without { s.drain.purposes with calibrate := false } } := by
  obtain ⟨holds, raised, driven⟩ := s.drive_alone .shortCalibration s.prof.tCS
  refine ⟨holds, raised, ?_⟩
  rw [State.issueShortCalibration, driven]
  rfl

/-- The issue of the long calibration of a bring-up: busy for tCL (R107). -/
theorem State.issueLongCalibration_eq (s : State) (path : BringUpPath) (phase : s.rank.state = .bringUp path (.longCal false)) :
    ∃ holds : HoldUnit, (∀ t : State, t.holds = holds → OnlyRaised [(.command, max 1 s.prof.tCL)] s t) ∧
      s.issueLongCalibration = State.settle { s.operating .longCalibration holds with
        calibration := { s.calibration with busy := .long (s.time + s.prof.tCL) }
        rank := { s.rank with state := .bringUp path (.longCal true) } } := by
  obtain ⟨holds, raised, driven⟩ := s.drive_alone .longCalibration s.prof.tCL
  refine ⟨holds, raised, ?_⟩
  simp only [State.issueLongCalibration, driven, phase]
  rfl

/-! ### Mode sets (R35, R119, R120) -/

/-- The issue of a mode set of a bring-up, which moves MODE_LOAD on. -/
theorem State.issueModeSet_eq (s : State) (w : ModeWord) (path : BringUpPath) (phase : BringUpPhase)
    (state : s.rank.state = .bringUp path phase) :
    ∃ holds : HoldUnit, (∀ t : State, t.holds = holds → OnlyRaised [(.command, max 1 s.prof.tMS)] s t) ∧
      s.issueModeSet w = State.settle { s.operating (.modeSet w (s.prof.modeValue w)) holds with
        rank := { s.rank with state := .bringUp path (s.afterModeSet path w) } } := by
  obtain ⟨holds, raised, driven⟩ := s.drive_alone (.modeSet w (s.prof.modeValue w)) s.prof.tMS
  refine ⟨holds, raised, ?_⟩
  simp only [State.issueModeSet, driven, state]
  rfl

/-- MODE_LOAD after its second word: LONG_CAL on the full path, its end time on the retained one (R119, R120). -/
theorem State.afterModeSet_write (s : State) (path : BringUpPath) :
    s.afterModeSet path .write = if path = .full then .longCal false else .modeLoad (.settling (s.time + s.prof.tMS)) := by
  cases path <;> rfl

/-! ### Self-refresh entry (R36, R82, R123, R130) -/

/-- A rank state taken and told to every current session (R117). -/
theorem State.become_eq (s : State) (r : RankState) :
    s.become r = { s.told (.rankState r.name) with rank := { s.rank with state := r } } := by
  rw [State.become, State.noticeAll_told]
  rfl

/-- No sleep entry begins in SLEEP (R128). -/
theorem State.judgeUnanimity_of_sleep {s : State} {wanted : Bool} (state : s.rank.state = .sleep wanted)
    (begun : s.rank.sleepBegun = false) : s.judgeUnanimity = s := by
  have quiet : s.unanimous = false := by
    simp only [State.unanimous, state, RankState.name]
    simp
  simp [State.judgeUnanimity, quiet, begun]

/-- The issue of a self-refresh entry that serves SLEEP alone (R82, R90, R130). -/
theorem State.issueSelfRefreshEntry_sleep (s : State) (purposes : s.drain.purposes = ⟨false, false, true, false⟩) :
    ∃ holds : HoldUnit, (∀ t : State, t.holds = holds → OnlyRaised [(.command, max 1 1)] s t) ∧
      s.issueSelfRefreshEntry = State.settle { (s.told (.rankState .sleep)).operating .selfRefreshEntry holds with
        rank := { s.rank with state := .sleep false, sleepBegun := false }
        refresh := { s.refresh with timer := none }
        drain := .idle } := by
  obtain ⟨holds, raised, driven⟩ := s.drive_alone .selfRefreshEntry 1
  refine ⟨holds, raised, ?_⟩
  have served : (s.drain.without (s.drain.purposes.drop .sleep)) = .idle := by rw [purposes]; rfl
  simp only [State.issueSelfRefreshEntry, driven, purposes, if_true, Bool.false_eq_true, if_false, State.become_eq]
  rw [State.judgeUnanimity_of_sleep rfl rfl]
  simp only [State.dropPurpose, State.setDrain, served]
  rfl

/-- The issue of a self-refresh entry that serves a STOP (R82, R90, R106, R123). -/
theorem State.issueSelfRefreshEntry_stop (s : State) (stop : s.drain.purposes.stop = true) :
    ∃ holds : HoldUnit, (∀ t : State, t.holds = holds → OnlyRaised [(.command, max 1 1)] s t) ∧
      s.issueSelfRefreshEntry = State.settle { (s.told (.rankState .offline)).operating .selfRefreshEntry holds with
        rank := { s.rank with
          state := .offline, retained := true, stopPending := false, sleepBegun := false, idle := .stopped
          votes := s.rank.votes.map fun v => v.map fun _ => .awake }
        refresh := { s.refresh with timer := none }
        calibration := { s.calibration with shortDue := false, lock := none }
        drain := .idle } := by
  obtain ⟨holds, raised, driven⟩ := s.drive_alone .selfRefreshEntry 1
  refine ⟨holds, raised, ?_⟩
  simp only [State.issueSelfRefreshEntry, driven, stop, if_true, State.enterOffline, State.become_eq]
  cases s.drain.purposes.sleep <;> rfl

end Sys2Proof.Machine

namespace Sys2Proof.Proofs

open Sys2Proof Sys2Proof.Machine

/-- Settles O50: what each issue makes of the rank (`issueShortCalibration_eq` and the like), where its grant places the rank in the
phase that offers it. -/
theorem calibrationsAndModeSetsIssued : Obligations.CalibrationsAndModeSetsIssued := by
  intro s arb f
  refine ⟨fun granted => ?_, fun granted => ?_, fun granted => ?_, fun granted => ?_⟩
  · obtain ⟨holds, raised, issued⟩ := s.issueShortCalibration_eq
    obtain ⟨raises, unit, bare⟩ := State.settled_issue issued raised rfl
    refine ⟨_, exec_shortCalibrationIssued granted, raises, ?_⟩
    rw [unit, bare]
    rfl
  · obtain ⟨⟨path, phase⟩, -⟩ := State.granted_operation granted
    obtain ⟨holds, raised, issued⟩ := s.issueLongCalibration_eq path phase
    obtain ⟨raises, unit, bare⟩ := State.settled_issue issued raised rfl
    refine ⟨_, path, exec_longCalibrationIssued granted, phase, raises, ?_⟩
    rw [unit, bare]
    rfl
  · obtain ⟨⟨path, phase⟩, -⟩ := State.granted_operation granted
    obtain ⟨holds, raised, issued⟩ := s.issueModeSet_eq .latency path _ phase
    obtain ⟨raises, unit, bare⟩ := State.settled_issue issued raised rfl
    refine ⟨_, path, exec_modeSetIssued granted, phase, raises, ?_⟩
    rw [unit, bare]
    rfl
  · obtain ⟨⟨path, phase⟩, -⟩ := State.granted_operation granted
    obtain ⟨holds, raised, issued⟩ := s.issueModeSet_eq .write path _ phase
    obtain ⟨raises, unit, bare⟩ := State.settled_issue issued raised rfl
    refine ⟨_, path, exec_modeSetIssued granted, phase, raises, ?_⟩
    rw [unit, bare, State.afterModeSet_write]
    rfl

/-- Settles O52: what the entry makes of the rank where it serves SLEEP alone, and where it serves a STOP. -/
theorem selfRefreshEntryIssued : Obligations.SelfRefreshEntryIssued := by
  intro s granted arb
  refine ⟨fun purposes => ?_, fun stop => ?_⟩
  · obtain ⟨holds, raised, issued⟩ := s.issueSelfRefreshEntry_sleep purposes
    obtain ⟨raises, unit, bare⟩ := State.settled_issue issued raised rfl
    refine ⟨_, exec_selfRefreshEntryIssued granted, raises, ?_⟩
    rw [unit, bare]
    rfl
  · obtain ⟨holds, raised, issued⟩ := s.issueSelfRefreshEntry_stop stop
    obtain ⟨raises, unit, bare⟩ := State.settled_issue issued raised rfl
    refine ⟨_, exec_selfRefreshEntryIssued granted, raises, ?_⟩
    rw [unit, bare]
    rfl

end Sys2Proof.Proofs
end

section
/-! PROOFS. Power-down entry and exit, and the STOP that an exit can carry out (R36, R59, R117, R121, R125, R126): O51. -/

namespace Sys2Proof.Machine

/-! ### Purposes added (R75, R78) -/

theorem Purposes.has_add (v : Purposes) (u : Purpose) : (v.add u).has u = true := by cases u <;> rfl

/-- A purpose added is one of the drain's. -/
theorem State.addPurpose_has (s : State) (u : Purpose) (urgent : Bool) : (s.addPurpose u urgent).drain.purposes.has u = true := by
  unfold State.addPurpose
  split
  · simp only [State.startDrain, State.sendDrain_frame, id, s.beginDrain_drain]
    exact Purposes.has_add _ u
  · rw [id, apply_ite State.drain, State.endGrace_drain]
    split <;> exact Purposes.has_add _ u
  · exact Purposes.has_add _ u
  · exact Purposes.has_add _ u

/-- The addition of a purpose sends frames, and does nothing else to the links (R22, R76). -/
theorem State.addPurpose_appends (s : State) (u : Purpose) (urgent : Bool) :
    Appends (fun _ => True) s (s.addPurpose u urgent) := by
  have ended (v : State) : Appends (fun _ => True) v v.endGrace := v.endGrace_appends.mono fun _ _ => trivial
  unfold State.addPurpose
  split
  · exact ((s.beginDrain_appends u urgent).mono fun _ _ => trivial).trans
      (.foldl (fun v p => v.send_appends p _ trivial) _ _)
  · exact .ite ((Appends.of_links (by simp)).trans (ended _)) (.of_links (by simp))
  · exact .of_links (by simp)
  · exact .of_links (by simp)

/-- With no entry in any queue, grace end leaves the queues (R79). -/
theorem State.endGrace_queues {s : State} (empty : ∀ p, (s.queues.look p).entries = []) : s.endGrace.queues = s.queues := by
  have one (u : State) (b : Bank) (same : u.queues = s.queues) : (u.graceRevoke s.drain.reason b).queues = s.queues := by
    unfold State.graceRevoke
    split
    · exact same
    · rw [State.reevaluate_none _ _ fun p => by simp [State.front, same, empty]]
      simpa using same
    · exact same
  simpa [State.endGrace] using foldl_holds (fun u : State => u.queues = s.queues) _ one allBanks s rfl

/-- With no entry in any queue, the addition of a purpose leaves the queues. -/
theorem State.addPurpose_queues {s : State} (u : Purpose) (urgent : Bool) (empty : ∀ p, (s.queues.look p).entries = []) :
    (s.addPurpose u urgent).queues = s.queues := by
  have ended (d : Drain) : (s.setDrain d).endGrace.queues = s.queues := State.endGrace_queues empty
  unfold State.addPurpose
  split
  · simp only [State.startDrain, State.sendDrain_frame, id, s.beginDrain_eq]
    split
    · exact ended _
    · simp [State.grantsGrace]
  · rw [id, apply_ite State.queues, ended]
    exact ite_self _
  · rfl
  · rfl

/-! ### A STOP carried out (R59, R121) -/

theorem State.refuseStopped_entries (s : State) (p q : Port) (e : Entry) :
    ((s.refuseStopped p e).queues.look q).entries = (s.queues.look q).entries := by
  simp only [State.refuseStopped, State.modQueue, Table.look_modify]
  split <;> simp

/-- A queue emptied by refusal is empty, and the others keep their entries (R59). -/
theorem State.refuseQueue_entries (s : State) (p q : Port) :
    ((s.refuseQueue p).queues.look q).entries = if p = q then [] else (s.queues.look q).entries := by
  have kept := foldl_keeps (fun u : State => (u.queues.look q).entries) (State.refuseStopped p)
    (fun u e => u.refuseStopped_entries p q e) (s.queues.look p).entries s
  simp only [State.refuseQueue, State.modQueue, Table.look_modify]
  split
  · rfl
  · exact kept

/-- No entry is left in any queue (R59). -/
theorem State.refuseQueues_entries (s : State) (p : Port) : (s.refuseQueues.queues.look p).entries = [] := by
  have emptied (l : List Port) (u : State) (h : p ∈ l ∨ (u.queues.look p).entries = []) :
      ((l.foldl State.refuseQueue u).queues.look p).entries = [] := by
    induction l generalizing u with
    | nil => exact h.resolve_left (by simp)
    | cons q l ih =>
      refine ih _ ?_
      rw [u.refuseQueue_entries q p]
      by_cases same : q = p
      · exact .inr (if_pos same)
      · rw [if_neg same]
        exact h.imp_left fun mem => (List.mem_cons.mp mem).resolve_left (Ne.symm same)
  exact emptied allPorts s (.inl (mem_allPorts p))

theorem State.refuseQueues_appends (s : State) : Appends OutFrame.NoDrain s s.refuseQueues := by
  have one (p : Port) (u : State) (e : Entry) : Appends OutFrame.NoDrain u (u.refuseStopped p e) :=
    (u.refuse_appends p e.tag .rankStopping).trans_links (by simp [State.refuseStopped])
  exact .foldl (fun u p => (Appends.foldl (one p) (u.queues.look p).entries u).trans_links (by simp [State.refuseQueue])) allPorts s

/-- A rank that has gone to STOPPING and has told so (R117, R121). -/
def State.toStopping (s : State) : State :=
  { s.told (.rankState .stopping) with rank := { s.rank with state := .stopping, stopPending := false } }

/-- A STOP carried out, up to the drain that it asks for: every queue emptied by refusal, the idle timer STOPPED (R59, R121). -/
def State.stopped (s : State) : State :=
  { s.toStopping.refuseQueues with rank := { s.toStopping.refuseQueues.rank with idle := .stopped } }

theorem State.carryOutStop_eq (s : State) : s.carryOutStop = s.stopped.addPurpose .stop false := by
  simp only [State.carryOutStop, State.stopped, State.toStopping, State.become_eq, RankState.name]

/-- What a STOP carried out makes of the rank (R121). -/
theorem State.carryOutStop_rank (s : State) :
    s.carryOutStop.rank = { s.rank with state := .stopping, stopPending := false, idle := .stopped } := by
  simp [State.carryOutStop_eq, State.stopped, State.toStopping]

/-- A STOP carried out empties every queue (R59). -/
theorem State.carryOutStop_entries (s : State) (p : Port) : (s.carryOutStop.queues.look p).entries = [] := by
  have empty := s.toStopping.refuseQueues_entries
  rw [State.carryOutStop_eq, State.addPurpose_queues (s := s.stopped) .stop false empty]
  exact empty p

/-- A STOP carried out asks for a drain to serve it (R121). -/
theorem State.carryOutStop_purposes (s : State) : s.carryOutStop.drain.purposes.stop = true := by
  rw [State.carryOutStop_eq]
  exact s.stopped.addPurpose_has .stop false

/-- A notice to all is in the outbound queue of every current session (R117). -/
theorem State.told_outbound (s : State) (m : Message) {p : Port} {e : Byte} (current : s.epoch? p = some e) :
    ((s.told m).links.look p).outbound = (s.links.look p).outbound ++ [⟨e, 0, m⟩] := by
  simp [State.told, current]

/-- RANK_STATE(STOPPING) goes first of what a STOP sends (R117, R121). -/
theorem State.carryOutStop_sent (s : State) {p : Port} {e : Byte} (current : s.epoch? p = some e) :
    Sent s s.carryOutStop p [⟨e, 0, .rankState .stopping⟩] := by
  have told : (s.links.look p).outbound ++ [⟨e, 0, .rankState .stopping⟩] = (s.toStopping.links.look p).outbound :=
    (s.told_outbound _ current).symm
  have refused : Appends (fun _ => True) s.toStopping s.stopped :=
    (s.toStopping.refuseQueues_appends.mono fun _ _ => trivial).trans_links (by simp only [State.stopped])
  rw [State.carryOutStop_eq]
  exact Appends.sent told (refused.trans (s.stopped.addPurpose_appends .stop false))

/-! ### Power-down (R36, R125, R126) -/

/-- Out of ACTIVE the idle timer is STOPPED (R124). -/
theorem State.settle_idle {s : State} (state : s.rank.state ≠ .active) : s.settle.rank.idle = .stopped := by
  have idle : s.idleTimerHolds = false := by simp [State.idleTimerHolds, State.rankIdle, state]
  have judged : s.judgeIdle.rank.idle = .stopped := by
    unfold State.judgeIdle
    cases hs : s.rank.idle <;> simp [idle, hs]
  simpa [State.settle] using judged

/-- The issue of a power-down entry, with a master awake (R125). -/
theorem State.issuePowerDownEntry_eq (s : State) (awake : s.awakeMaster) :
    ∃ holds : HoldUnit, (∀ t : State, t.holds = holds → OnlyRaised [(.command, max 1 1)] s t) ∧
      s.issuePowerDownEntry = State.settle { (s.told (.rankState .powerDown)).operating .powerDownEntry holds with
        rank := { s.rank with state := .powerDown ⟨s.time + s.prof.tPDM, false, false⟩, idle := .stopped } } := by
  obtain ⟨holds, raised, driven⟩ := s.drive_alone .powerDownEntry 1
  refine ⟨holds, raised, ?_⟩
  simp only [State.issuePowerDownEntry, driven, State.become_eq]
  rw [State.judgeUnanimity_awake]
  · rfl
  · exact awake

/-- The issue of a power-down exit with no STOP pending, with a master awake (R126). -/
theorem State.issuePowerDownExit_eq (s : State) (awake : s.awakeMaster) (unstopped : s.rank.stopPending = false) :
    ∃ holds : HoldUnit, (∀ t : State, t.holds = holds → OnlyRaised [(.command, max 1 s.prof.tPDX)] s t) ∧
      s.issuePowerDownExit = State.settle { (s.told (.rankState .active)).operating .powerDownExit holds with
        rank := { s.rank with state := .active } } := by
  obtain ⟨holds, raised, driven⟩ := s.drive_alone .powerDownExit s.prof.tPDX
  refine ⟨holds, raised, ?_⟩
  simp only [State.issuePowerDownExit, driven, unstopped, Bool.false_eq_true, if_false, State.become_eq]
  rw [State.judgeUnanimity_awake]
  · rfl
  · exact awake

/-- The issue of a power-down exit with a STOP pending: the STOP carried out (R121). -/
theorem State.issuePowerDownExit_stop (s : State) (stop : s.rank.stopPending = true) :
    ∃ holds : HoldUnit, (∀ t : State, t.holds = holds → OnlyRaised [(.command, max 1 s.prof.tPDX)] s t) ∧
      s.issuePowerDownExit =
        State.settle (State.recordOperation (State.carryOutStop
          { s with holds := holds, arbiter := { s.arbiter with commandBus := some .powerDownExit } })) := by
  obtain ⟨holds, raised, driven⟩ := s.drive_alone .powerDownExit s.prof.tPDX
  refine ⟨holds, raised, ?_⟩
  simp only [State.issuePowerDownExit, driven, stop, if_true]

/-- The end of a happening changes no rank state but the idle timer (R124). -/
theorem State.settle_rank (s : State) : ∃ i, s.settle.rank = { s.rank with idle := i } := by
  obtain ⟨i, judged⟩ := s.judgeIdle_withIdle
  exact ⟨i, by rw [State.settle, judged]; rfl⟩

/-- The end of a happening changes no entry but its waiting-reason (R54). -/
theorem State.settle_entries (s : State) (p : Port) :
    ∃ reason : Entry → Option WaitReason,
      (s.settle.queues.look p).entries = (s.queues.look p).entries.map fun e => { e with waiting := reason e } := by
  obtain ⟨i, judged⟩ := s.judgeIdle_withIdle
  refine ⟨fun e => (s.withIdle i).waitingOf p e, ?_⟩
  rw [State.settle, judged]
  simp [State.reassess, State.withIdle]

/-- What stands once a STOP has been carried out by an issue, its grant recorded and the end of the happening assessed (R54, R59,
R73, R121, R124). -/
structure StopIssued (d t : State) : Prop where
  arbiter : t.arbiter = { d.arbiter with lastGrant := .rankOperation }
  holds : t.holds = d.holds
  rank : ∃ i, t.rank = { d.rank with state := .stopping, stopPending := false, idle := i }
  purposes : t.drain.purposes.stop = true
  entries : ∀ p, (t.queues.look p).entries = []
  sent : ∀ p e, d.epoch? p = some e → Sent d t p [⟨e, 0, .rankState .stopping⟩]
  rest : SameBut [.links, .queues, .banks, .drain, .arbiter, .mover, .rank, .fault] d t

theorem State.stopIssued (d : State) : StopIssued d d.carryOutStop.recordOperation.settle where
  arbiter := by simp [State.recordOperation]
  holds := by simp
  rank := by
    obtain ⟨i, rank⟩ := d.carryOutStop.recordOperation.settle_rank
    exact ⟨i, by simp only [rank, State.recordOperation_frame, d.carryOutStop_rank]⟩
  purposes := by simp [d.carryOutStop_purposes]
  entries p := by
    obtain ⟨reason, entries⟩ := d.carryOutStop.recordOperation.settle_entries p
    simp [entries, d.carryOutStop_entries p]
  sent p e current := by
    have sent := d.carryOutStop_sent current
    simpa [Sent] using sent
  rest x hx := by cases x <;> first | exact absurd hx (by decide) | simp [Part.Agree]

end Sys2Proof.Machine

namespace Sys2Proof.Proofs

open Sys2Proof Sys2Proof.Machine

/-- Settles O51: the entry and the plain exit as plain changes of the rank, the exit with a STOP pending by what the STOP does. -/
theorem powerDownEntryAndExitIssued : Obligations.PowerDownEntryAndExitIssued := by
  intro s arb
  refine ⟨fun granted awake => ?_, fun granted => ⟨fun unstopped awake => ?_, fun stop => ?_⟩⟩
  · obtain ⟨holds, raised, issued⟩ := s.issuePowerDownEntry_eq awake
    obtain ⟨raises, unit, bare⟩ := State.settled_issue issued raised rfl
    refine ⟨_, exec_powerDownEntryIssued granted, raises, by rw [issued]; exact State.settle_idle nofun, ?_⟩
    rw [unit, bare]
    rfl
  · obtain ⟨holds, raised, issued⟩ := s.issuePowerDownExit_eq awake unstopped
    obtain ⟨raises, unit, bare⟩ := State.settled_issue issued raised rfl
    refine ⟨_, exec_powerDownExitIssued granted, raises, ?_⟩
    rw [unit, bare]
    rfl
  · obtain ⟨holds, raised, issued⟩ := s.issuePowerDownExit_stop stop
    have ends := State.stopIssued { s with holds := holds, arbiter := { s.arbiter with commandBus := some .powerDownExit } }
    rw [← issued] at ends
    obtain ⟨i, rank⟩ := ends.rank
    have driven : SameBut [.holds, .arbiter] s
        { s with holds := holds, arbiter := { s.arbiter with commandBus := some .powerDownExit } } := fun x hx => by
      cases x <;> first | rfl | exact absurd hx (by decide)
    exact ⟨_, exec_powerDownExitIssued granted, raised _ ends.holds, ends.arbiter, by rw [rank], by rw [rank], ends.purposes,
      ends.entries, ends.sent, (driven.mono (by decide)).trans (ends.rest.mono (by decide))⟩

end Sys2Proof.Proofs
end

section
/-! PROOFS. A short calibration that becomes due, and the issue of a refresh, which can make one due (R34, R75, R95, R97, R99, R108): O49. -/

namespace Sys2Proof.Machine

/-! ### A short calibration that becomes due (R108) -/

/-- A short calibration becomes due where none was by the addition of CALIBRATE. -/
theorem State.shortCalibrationDue_eq {s : State} (undue : s.calibration.shortDue = false) :
    s.shortCalibrationDue =
      State.addPurpose { s with calibration := { s.calibration with shortDue := true } } .calibrate false := by
  simp only [State.shortCalibrationDue, undue, Bool.false_eq_true, if_false]

theorem State.shortCalibrationDue_of_due {s : State} (due : s.calibration.shortDue = true) : s.shortCalibrationDue = s := by
  simp only [State.shortCalibrationDue, due, if_true]

theorem State.shortCalibrationDue_calibration (s : State) :
    s.shortCalibrationDue.calibration = { s.calibration with shortDue := true } := by
  cases due : s.calibration.shortDue with
  | true => rw [State.shortCalibrationDue_of_due due, ← due]
  | false => simp [State.shortCalibrationDue_eq due]

/-- CALIBRATE is then a purpose of the drain (R108). -/
theorem State.shortCalibrationDue_purposes {s : State} (undue : s.calibration.shortDue = false) :
    s.shortCalibrationDue.drain.purposes.calibrate = true := by
  rw [State.shortCalibrationDue_eq undue]
  exact State.addPurpose_has _ .calibrate false

/-- With no drain active one starts for it (R75, R108). -/
theorem State.shortCalibrationDue_started {s : State} (undue : s.calibration.shortDue = false) (idle : s.drain.phase = .none) :
    DrainStarted ⟨false, true, false, false⟩ false false s s.shortCalibrationDue := by
  rw [State.shortCalibrationDue_eq undue, State.addPurpose_others, if_pos idle]
  exact (State.startDrain_started _ .calibrate false).of_before rfl rfl rfl (.of_links rfl)

theorem State.shortCalibrationDue_appends (s : State) : Appends (fun _ => True) s s.shortCalibrationDue := by
  cases due : s.calibration.shortDue with
  | true => exact .of_links (by rw [State.shortCalibrationDue_of_due due])
  | false =>
    rw [State.shortCalibrationDue_eq due]
    have marked : Appends (fun _ => True) s { s with calibration := { s.calibration with shortDue := true } } := .of_links rfl
    exact marked.trans (State.addPurpose_appends _ .calibrate false)

/-- With all banks CLOSED grace end revokes nothing (R79). -/
theorem State.endGrace_of_closed {s : State} (closed : ∀ b, (s.banks.look b).state = .closed) :
    s.endGrace = (s.setDrain { s.drain with phase := .closing }).completeDrain := by
  have still : allBanks.foldl (State.graceRevoke s.drain.reason) s = s :=
    foldl_holds (fun u => u = s) _ (fun u b same => by simp only [same, State.graceRevoke, closed b]) allBanks s rfl
  rw [State.endGrace, still]

/-- With all banks CLOSED the addition of a purpose counts and records nothing (R79). -/
theorem State.addPurpose_fault {s : State} (u : Purpose) (urgent : Bool) (closed : ∀ b, (s.banks.look b).state = .closed) :
    (s.addPurpose u urgent).fault = s.fault := by
  have ended (d : Drain) : (s.setDrain d).endGrace.fault = s.fault := by
    rw [State.endGrace_of_closed (s := s.setDrain d) closed]
    simp
  unfold State.addPurpose
  split
  · simp only [State.startDrain, State.sendDrain_frame, id, s.beginDrain_eq]
    split
    · exact ended _
    · simp [State.grantsGrace]
  · rw [id, apply_ite State.fault, ended]
    exact ite_self _
  · rfl
  · rfl

theorem State.shortCalibrationDue_fault {s : State} (closed : ∀ b, (s.banks.look b).state = .closed) :
    s.shortCalibrationDue.fault = s.fault := by
  cases due : s.calibration.shortDue with
  | true => rw [State.shortCalibrationDue_of_due due]
  | false =>
    rw [State.shortCalibrationDue_eq due]
    exact State.addPurpose_fault .calibrate false closed

/-! ### The issue of a refresh (R34, R95, R97, R99) -/

theorem refreshRaises_nodup (f : Profile) : ((refreshRaises f).map Prod.fst).Nodup := by
  have fst : (refreshRaises f).map Prod.fst = allBanks.map .bankOpen ++ [.rankOperation, .command] := by
    simp [refreshRaises, Function.comp_def]
  rw [fst]
  decide

/-- A refresh paid off the balance and counted (R95). -/
def State.refreshPaid (s : State) (pullIn : Bool) : State :=
  { s with
    refresh := { s.refresh with balance := s.refresh.balance - 1 }
    fault := { s.fault with rank := { s.fault.rank with
      refreshes := s.fault.rank.refreshes + 1, pullIns := s.fault.rank.pullIns + if pullIn then 1 else 0 } } }

@[simp] theorem State.countRefresh_balance (s : State) : s.countRefresh.refresh.balance = s.refresh.balance := by
  rw [State.countRefresh, apply_ite State.refresh]
  split <;> simp

/-- The Refresh Unit's part in a refresh: paid, counted toward calibration, and REFRESH served where the balance of a service refresh
reaches 0 (R95, R99). -/
theorem State.refreshDone_eq (s : State) (pullIn : Bool) :
    s.refreshDone pullIn = if pullIn = false ∧ s.refresh.balance = 1 then (s.refreshPaid pullIn).countRefresh.dropPurpose .refresh
      else (s.refreshPaid pullIn).countRefresh := by
  have paid : State.modRankCounters { s with refresh := { s.refresh with balance := s.refresh.balance - 1 } } (fun c =>
      { c with refreshes := c.refreshes + 1, pullIns := if pullIn then c.pullIns + 1 else c.pullIns }) = s.refreshPaid pullIn := by
    cases pullIn <;> simp [State.modRankCounters, State.refreshPaid]
  have test : (!pullIn && (s.refreshPaid pullIn).countRefresh.refresh.balance == 0) = true ↔
      pullIn = false ∧ s.refresh.balance = 1 := by
    rw [State.countRefresh_balance]
    simp [State.refreshPaid, sub_eq_zero]
  simp only [State.refreshDone, paid]
  exact if_congr test rfl rfl

/-- A refresh counted toward calibration where the count stays below CPR (R99). -/
theorem State.countRefresh_below {s : State} (below : s.refresh.count + 1 < s.prof.cpr) :
    s.countRefresh = { s with refresh := { s.refresh with count := s.refresh.count + 1 } } := if_neg (Nat.not_le.mpr below)

/-- The refresh that takes the count to CPR makes a short calibration due (R99). -/
theorem State.countRefresh_reached {s : State} (reached : s.prof.cpr ≤ s.refresh.count + 1) :
    s.countRefresh = State.shortCalibrationDue { s with refresh := { s.refresh with count := 0 } } := if_pos reached

/-- A drain without REFRESH keeps CALIBRATE (R82). -/
theorem Drain.without_calibrate {d : Drain} {u : Purposes} (has : u.calibrate = true) : (d.without u).purposes.calibrate = true := by
  have some : u.isEmpty = false := by simp [Purposes.isEmpty, has]
  simp [Drain.without, some, has]

/-- What the refresh that makes a short calibration due leaves, all banks being CLOSED (R75, R95, R99). -/
structure CalibrationAsked (s : State) (pullIn : Bool) (t : State) : Prop where
  refresh : t.refresh = { s.refresh with balance := s.refresh.balance - 1, count := 0 }
  fault : t.fault = (s.refreshPaid pullIn).fault
  due : t.calibration.shortDue = true
  purposes : s.calibration.shortDue = false → t.drain.purposes.calibrate = true
  started : s.calibration.shortDue = false → s.drain.phase = .none → pullIn = true →
    t.drain = ⟨.service, ⟨false, true, false, false⟩, false⟩

theorem State.refreshDone_asked {s : State} (pullIn : Bool) (closed : ∀ b, (s.banks.look b).state = .closed)
    (reached : s.prof.cpr ≤ s.refresh.count + 1) : CalibrationAsked s pullIn (s.refreshDone pullIn) := by
  let v := { s.refreshPaid pullIn with refresh := { (s.refreshPaid pullIn).refresh with count := 0 } }
  have counted : (s.refreshPaid pullIn).countRefresh = v.shortCalibrationDue := State.countRefresh_reached reached
  have refresh : v.shortCalibrationDue.refresh = v.refresh := by simp
  have fault : v.shortCalibrationDue.fault = v.fault := State.shortCalibrationDue_fault closed
  have due := v.shortCalibrationDue_calibration
  rw [s.refreshDone_eq, counted]
  split
  · rename_i served
    exact
      { refresh := refresh, fault := fault, due := congrArg CalibrationUnit.shortDue due
        purposes := fun undue => Drain.without_calibrate (State.shortCalibrationDue_purposes (s := v) undue)
        started := fun _ _ pulled => nomatch served.1.symm.trans pulled }
  · exact
      { refresh := refresh, fault := fault, due := congrArg CalibrationUnit.shortDue due
        purposes := fun undue => State.shortCalibrationDue_purposes (s := v) undue
        started := fun undue idle _ => (State.shortCalibrationDue_started (s := v) undue idle).1 closed }

/-- The refresh that leaves the count below CPR changes the balance, the counters and the count, and serves REFRESH or not (R95,
R99). -/
theorem State.refreshDone_below {s : State} (pullIn : Bool) (below : s.refresh.count + 1 < s.prof.cpr) :
    s.refreshDone pullIn = { s.refreshPaid pullIn with
      refresh := { s.refresh with balance := s.refresh.balance - 1, count := s.refresh.count + 1 }
      drain := if pullIn = false ∧ s.refresh.balance = 1 then s.drain.without { s.drain.purposes with refresh := false }
        else s.drain } := by
  have counted : (s.refreshPaid pullIn).countRefresh = { s.refreshPaid pullIn with
      refresh := { (s.refreshPaid pullIn).refresh with count := s.refresh.count + 1 } } := State.countRefresh_below below
  rw [s.refreshDone_eq, counted]
  by_cases served : pullIn = false ∧ s.refresh.balance = 1
  · rw [if_pos served, if_pos served]
    rfl
  · rw [if_neg served, if_neg served]
    rfl

/-- Every refresh is paid off the balance and counted, all banks being CLOSED (R95). -/
theorem State.refreshDone_paid {s : State} (pullIn : Bool) (closed : ∀ b, (s.banks.look b).state = .closed) :
    (s.refreshDone pullIn).refresh.balance = s.refresh.balance - 1 ∧ (s.refreshDone pullIn).fault = (s.refreshPaid pullIn).fault := by
  rcases Nat.lt_or_ge (s.refresh.count + 1) s.prof.cpr with below | reached
  · rw [State.refreshDone_below pullIn below]
    exact ⟨rfl, rfl⟩
  · have asked := State.refreshDone_asked pullIn closed reached
    exact ⟨by rw [asked.refresh], asked.fault⟩

/-- A command driven with its raises, the Hold Unit as it then stands (R68). -/
theorem State.drive_unit (s : State) (c : BusCommand) (l : List (HoldId × Nat)) (nodup : (l.map Prod.fst).Nodup) :
    ∃ holds : HoldUnit, (∀ t : State, t.holds = holds → OnlyRaised l s t) ∧
      s.drive c l = { s with holds := holds, arbiter := { s.arbiter with commandBus := some c } } := by
  obtain ⟨holds, raised, driven⟩ := s.drive_raises c l nodup
  refine ⟨{ s.holds with holds := holds }, fun t unit => ⟨raised t (congrArg HoldUnit.holds unit), ?_, ?_⟩, driven⟩
  · exact (congrArg HoldUnit.window unit).trans rfl
  · exact (congrArg HoldUnit.bursts unit).trans rfl

/-- The issue of a refresh: its command driven, then the Refresh Unit's part (R34, R95). -/
theorem State.issueRefresh_eq (s : State) (pullIn : Bool) :
    ∃ holds : HoldUnit, (∀ t : State, t.holds = holds → OnlyRaised (refreshRaises s.prof) s t) ∧
      s.issueRefresh pullIn = State.settle (State.recordOperation (State.refreshDone
        { s with holds := holds, arbiter := { s.arbiter with commandBus := some .refresh } } pullIn)) := by
  obtain ⟨holds, raised, driven⟩ := s.drive_unit .refresh (refreshRaises s.prof) (refreshRaises_nodup _)
  exact ⟨holds, raised, by rw [State.issueRefresh, driven]⟩

/-- A refresh counted leaves the arbiter. -/
@[simp] theorem State.refreshDone_arbiter (s : State) (pullIn : Bool) : (s.refreshDone pullIn).arbiter = s.arbiter := by
  have counted (u : State) : u.countRefresh.arbiter = u.arbiter := by
    rw [State.countRefresh, apply_ite State.arbiter]
    simp
  rw [State.refreshDone, apply_ite State.arbiter]
  simp [counted]

end Sys2Proof.Machine

namespace Sys2Proof.Proofs

open Sys2Proof Sys2Proof.Machine

/-- Settles O49: below CPR the issue is one plain change; at CPR it asks for a calibration (`CalibrationAsked`), for which no bank
is left to revoke, since a refresh is granted only with all banks CLOSED. -/
theorem refreshIssued : Obligations.RefreshIssued := by
  intro s pullIn granted d c c'
  obtain ⟨offered, -, conditions⟩ := State.granted_operation granted
  obtain ⟨-, -, -, closed⟩ := conditions nofun nofun
  obtain ⟨holds, raised, issued⟩ := s.issueRefresh_eq pullIn
  let u : State := { s with holds := holds, arbiter := { s.arbiter with commandBus := some .refresh } }
  have unit : (s.issueRefresh pullIn).holds = holds := by simp [issued]
  have arbiter : (s.issueRefresh pullIn).arbiter = { s.arbiter with lastGrant := .rankOperation, commandBus := some .refresh } := by
    simp [issued, State.recordOperation]
  have refresh : (s.issueRefresh pullIn).refresh = (u.refreshDone pullIn).refresh := by simp [issued, u]
  have fault : (s.issueRefresh pullIn).fault = (u.refreshDone pullIn).fault := by simp [issued, u]
  have calibration : (s.issueRefresh pullIn).calibration = (u.refreshDone pullIn).calibration := by simp [issued, u]
  have drain : (s.issueRefresh pullIn).drain = (u.refreshDone pullIn).drain := by simp [issued, u]
  obtain ⟨balance, counted⟩ := State.refreshDone_paid (s := u) pullIn closed
  refine ⟨_, exec_refreshIssued granted, arbiter, raised _ unit, by rw [refresh, balance], by rw [fault, counted]; rfl,
    fun below => ?_, fun reached => ?_, fun x hx => ?_⟩
  · rw [unit, arbiter, issued, State.settle_bare, State.refreshDone_below (s := u) pullIn below]
    rfl
  · have asked := State.refreshDone_asked (s := u) pullIn closed reached
    rw [refresh, calibration, drain]
    refine ⟨by rw [asked.refresh], asked.due, fun undue => ⟨asked.purposes undue, fun idle => asked.started undue idle ?_⟩⟩
    cases pullIn with
    | true => rfl
    | false => exact nomatch idle.symm.trans offered.1.1
  · cases x <;> first | exact absurd hx (by decide) | simp [Part.Agree, issued]

end Sys2Proof.Proofs
end

section
/-! PROOFS. The issue of a self-refresh exit (R36, R90, R108, R112, R120, R127, R131): O53. -/

namespace Sys2Proof.Machine

/-! ### The rank's part in an exit (R120, R131) -/

/-- SLEEP goes to WAKING, which is told (R117, R131). -/
theorem State.exitRank_sleep {s : State} {wanted : Bool} (state : s.rank.state = .sleep wanted) :
    s.exitRank = { s.told (.rankState .waking) with rank := { s.rank with state := .waking (s.time + s.prof.tSRX) } } := by
  simp only [State.exitRank, state, State.become_eq, RankState.name]

/-- EXIT_WAIT is timed, the retained flag clear, and nothing is told (R115, R120). -/
theorem State.exitRank_bringUp {s : State} {path : BringUpPath} {phase : BringUpPhase} (state : s.rank.state = .bringUp path phase) :
    s.exitRank = { s with rank := { s.rank with
      retained := false, state := .bringUp path (.exitWait (some (s.time + s.prof.tSRX))) } } := by
  simp only [State.exitRank, state, State.setRank]

@[simp] theorem State.exitRank_votes (s : State) : s.exitRank.rank.votes = s.rank.votes := by
  unfold State.exitRank
  split
  · rw [State.become_eq]
  · rfl
  · rfl

@[simp] theorem State.exitRank_frame (s : State) :
    s.exitRank.time = s.time ∧ s.exitRank.epochCounter = s.epochCounter ∧ s.exitRank.banks = s.banks ∧
      s.exitRank.drain = s.drain ∧ s.exitRank.arbiter = s.arbiter ∧ s.exitRank.refresh = s.refresh ∧
      s.exitRank.calibration = s.calibration ∧ s.exitRank.profile = s.profile ∧ s.exitRank.capture = s.capture ∧
      s.exitRank.freeIndex = s.freeIndex ∧ s.exitRank.pending = s.pending := by
  unfold State.exitRank
  split
  · simp
  · simp [State.setRank]
  · simp

theorem State.become_appends (s : State) (r : RankState) : Appends OutFrame.NoDrain s (s.become r) := by
  have moved : Appends OutFrame.NoDrain s (s.setRank r) := .of_links rfl
  exact moved.trans ((s.setRank r).noticeAll_appends (.rankState r.name) nofun)

/-- An exit tells no drain (R76). -/
theorem State.exitRank_appends (s : State) : Appends OutFrame.NoDrain s s.exitRank := by
  unfold State.exitRank
  split
  · exact s.become_appends _
  · exact .of_links rfl
  · exact .of_links rfl

/-! ### What every exit reports (R69, R90, R108, R112) -/

/-- The lock window RUNNING (R112). -/
def State.locked (s : State) : State :=
  { s with calibration := { s.calibration with lock := some (s.time + s.prof.tLOCK) } }

theorem State.exitReports_eq (s : State) : s.exitReports =
    { s.locked.shortCalibrationDue with refresh := { s.refresh with balance := 0 } } := by
  have refresh : s.locked.shortCalibrationDue.refresh = s.refresh := by simp [State.locked]
  rw [← refresh]
  rfl

/-- What stands once an exit has reported, its grant recorded and the end of the happening assessed (R54, R73, R90, R108, R112,
R124, R127). -/
structure ExitIssued (v t : State) : Prop where
  arbiter : t.arbiter = { v.arbiter with lastGrant := .rankOperation }
  holds : t.holds = v.holds
  rank : ∃ i, t.rank = { v.rank with votes := v.rank.votes.map fun x => x.map fun _ => .awake, idle := i }
  calibration : t.calibration = { v.calibration with shortDue := true, lock := some (v.time + v.prof.tLOCK) }
  refresh : t.refresh = { v.refresh with balance := 0 }
  purposes : v.calibration.shortDue = false → t.drain.purposes.calibrate = true
  started : v.calibration.shortDue = false → v.drain.phase = .none → DrainStarted ⟨false, true, false, false⟩ false false v t
  appends : Appends (fun _ => True) v t
  rest : SameBut [.links, .queues, .banks, .drain, .arbiter, .mover, .refresh, .calibration, .rank, .fault] v t

theorem State.exitIssued (v : State) : ExitIssued v v.votesAwake.exitReports.recordOperation.settle where
  arbiter := by simp [State.exitReports_eq, State.locked, State.recordOperation]
  holds := by simp [State.exitReports_eq, State.locked]
  rank := by
    obtain ⟨i, rank⟩ := v.votesAwake.exitReports.recordOperation.settle_rank
    refine ⟨i, rank.trans ?_⟩
    simp [State.exitReports_eq, State.locked, State.votesAwake]
  calibration := by simp [State.exitReports_eq, State.shortCalibrationDue_calibration, State.locked, State.prof]
  refresh := by simp [State.exitReports_eq]
  purposes undue := by
    have asked := State.shortCalibrationDue_purposes (s := v.votesAwake.locked) undue
    simpa [State.exitReports_eq] using asked
  started undue idle := by
    have started := State.shortCalibrationDue_started (s := v.votesAwake.locked) undue idle
    exact (started.of_before (s := v) rfl rfl rfl (.of_links rfl)).of_after (by simp [State.exitReports_eq])
      (by simp [State.exitReports_eq]) (by simp [State.exitReports_eq])
  appends := by
    have awake : Appends (fun _ => True) v v.votesAwake.locked := .of_links rfl
    exact (awake.trans v.votesAwake.locked.shortCalibrationDue_appends).trans_links (by simp [State.exitReports_eq])
  rest x hx := by cases x <;> first | exact absurd hx (by decide) | simp [Part.Agree, State.exitReports_eq, State.locked]

/-- The issue of a self-refresh exit: its command driven, the rank moved, then the reports (R36). -/
theorem State.issueSelfRefreshExit_eq (s : State) :
    ∃ holds : HoldUnit, (∀ t : State, t.holds = holds → OnlyRaised [(.command, s.prof.tRFB + 8)] s t) ∧
      s.issueSelfRefreshExit = State.settle (State.recordOperation (State.exitReports (State.votesAwake (State.exitRank
        { s with holds := holds, arbiter := { s.arbiter with commandBus := some .selfRefreshExit } })))) := by
  obtain ⟨holds, raised, driven⟩ := s.drive_alone .selfRefreshExit s.prof.tSRX
  have amount : max 1 s.prof.tSRX = s.prof.tRFB + 8 := max_eq_right (Nat.le_add_left 1 (s.prof.tRFB + 7))
  rw [amount] at raised
  exact ⟨holds, raised, by rw [State.issueSelfRefreshExit, driven]⟩

end Sys2Proof.Machine

namespace Sys2Proof.Proofs

open Sys2Proof Sys2Proof.Machine

/-- Settles O53: the rank's part by the state it leaves (`exitRank_sleep`, `exitRank_bringUp`), and after it the reports of every
exit (`exitIssued`). -/
theorem selfRefreshExitIssued : Obligations.SelfRefreshExitIssued := by
  intro s granted done
  obtain ⟨holds, raised, issued⟩ := s.issueSelfRefreshExit_eq
  let d : State := { s with holds := holds, arbiter := { s.arbiter with commandBus := some .selfRefreshExit } }
  have driven : SameBut [.holds, .arbiter] s d := fun x hx => by
    cases x <;> first | rfl | exact absurd hx (by decide)
  have before : Appends OutFrame.NoDrain s d.exitRank := (Appends.of_links rfl).trans d.exitRank_appends
  have ends := State.exitIssued d.exitRank
  rw [← issued] at ends
  obtain ⟨i, rank⟩ := ends.rank
  refine ⟨_, exec_selfRefreshExitIssued granted, by simp [ends.arbiter, d], raised _ (by simp [ends.holds, d]),
    fun w sleep => ?_, fun path wait => ?_, fun p => by simp [rank, d], by simp [ends.calibration, State.prof, d],
    fun undue => ⟨ends.purposes (by simpa [d] using undue), fun idle => ?_⟩, by simp [ends.refresh, d], ?_⟩
  · have moved := State.exitRank_sleep (s := d) sleep
    refine ⟨by rw [rank, moved]; rfl, by rw [rank, moved], fun p e current => ?_⟩
    refine Appends.sent ?_ ends.appends
    rw [moved]
    exact (s.told_outbound _ current).symm
  · have moved := State.exitRank_bringUp (s := d) wait
    exact ⟨by rw [rank, moved]; rfl, by rw [rank, moved]⟩
  · have started := ends.started (by simpa [d] using undue) (by simpa [d] using idle)
    exact started.of_before (by simp [d]) (by simp [d]) (by simp [d]) before
  · intro x hx
    have same := ends.rest x fun mem => hx (by revert mem; cases x <;> decide)
    revert same
    cases x <;> first | exact absurd hx (by decide) | simp [Part.Agree, d]

end Sys2Proof.Proofs
end

section
/-! PROOFS. Soft reset (R115, R133, R170): O17. -/

namespace Sys2Proof.Machine

/-- After soft reset no session is current (R133). -/
@[simp] theorem State.cleared_epoch (s : State) (p : Port) : s.cleared.epoch? p = none := by
  simp only [State.cleared, State.epoch?, Table.look_map, PortLink.softReset, PortLink.reset]
  cases (s.links.look p).session <;> rfl

/-- In OFFLINE a thermal state has no further effect, whatever the retained flag and the command status (R126, R128, R131). -/
theorem State.reportThermal_of_rank_offline {s : State} (state : s.rank.state = .offline) (begun : s.rank.sleepBegun = false) : s.reportThermal = s := by
  have still : s.judgeUnanimity = s := by
    have quiet : s.unanimous = false := by simp [State.unanimous, state, RankState.name]
    simp [State.judgeUnanimity, quiet, begun]
  simp [State.reportThermal, State.judgeHotExit, State.wantWake, State.wantExit, state, still]

/-- The thermal record a soft reset with THOT asserted leaves (R101, R103). -/
def State.thotRecord (s : State) : FaultRecord := ⟨.thermalHot, none, none, .cause .thot, s.time48⟩

/-- Soft reset with THOT asserted: the thermal state goes to HOT with its record, and nothing else happens, since no session is
current to be told and no rank stands to be woken (R101, R102, R103). -/
theorem State.cleared_takeThot (s : State) :
    s.cleared.takeThot true = { s.cleared with
      refresh := { RefreshUnit.reset with thot := true, thermal := .hot }
      fault := s.cleared.fault.hand s.thotRecord } := by
  have change (u : State) (hot : u.thermalNext = .hot) (was : u.refresh.thermal = .normal) :
      u.evalThermal .thot id = (u.thermalChange .hot .thot).reportThermal := by
    simp [State.evalThermal, hot, was]
  rw [State.takeThot, change _ rfl rfl, State.thermalChange_of_no_session, State.reportThermal_of_rank_offline]
  · rfl
  · rfl
  · rfl
  · exact s.cleared_epoch

/-- The record of THOT holds ALERT asserted, since the reset mask passes it (R167, R168). -/
theorem State.cleared_alert (s : State) : (s.cleared.fault.hand s.thotRecord).alert = true := by
  simp [State.cleared, FaultUnit.reset, FaultUnit.hand, FaultUnit.judge, FaultUnit.alertDue, State.thotRecord, FaultKind.bit]

/-- The retained flag after a soft reset (R115). -/
theorem RankController.retainedAfterReset_iff (r : RankController) :
    r.retainedAfterReset = true ↔ (∃ w, r.state = .sleep w) ∨ (r.state = .offline ∧ r.retained = true) := by
  unfold RankController.retainedAfterReset
  cases r.state <;> simp

/-- A port's link after a soft reset (R133). -/
theorem PortLink.softReset_eq (l : PortLink) :
    l.softReset = ⟨if l.session = .down then .down else .linked, 0, false, 0, [], l.lastFrame⟩ := by
  obtain ⟨session⟩ := l
  cases session <;> rfl

/-- The queue, slots, spaces and link of a port after a soft reset (R25, R43, R133). -/
theorem State.cleared_port (s : State) (p : Port) :
    s.cleared.queues.look p = ⟨[], []⟩ ∧ (∀ i, (s.cleared.mover.ports.look p).slots.look i = .free) ∧
      (∀ i, (s.cleared.mover.ports.look p).spaces.look i = .free) ∧ s.cleared.links.look p = (s.links.look p).softReset := by
  simp [State.cleared, State.reset, PortQueue.reset, DataMover.reset, MoverPort.reset]

end Sys2Proof.Machine

namespace Sys2Proof.Proofs

open Sys2Proof Sys2Proof.Machine

/-- Settles O17: the cleared state, and a THOT that stands asserted taken after it. -/
theorem softResetKeepsAndClears : Obligations.SoftResetKeepsAndClears := by
  intro s
  have banks (b : Bank) : s.cleared.banks.look b = ⟨.closed, none⟩ := by
    simp [State.cleared, State.reset, BankEntry.reset]
  have holds (id : HoldId) : s.cleared.holds.holds.hold id = none := by
    cases id <;> simp [State.cleared, State.reset, HoldUnit.reset, Holds.allMet, Holds.hold]
  have ports (p : Port) : s.cleared.queues.look p = ⟨[], []⟩ ∧ (∀ i, (s.cleared.mover.ports.look p).slots.look i = .free) ∧
      (∀ i, (s.cleared.mover.ports.look p).spaces.look i = .free) ∧ (s.cleared.links.look p).outbound = [] ∧
      (s.cleared.links.look p).expected = 0 ∧ (s.cleared.links.look p).outSeq = 0 ∧ (s.cleared.links.look p).resync = false ∧
      (s.cleared.links.look p).session = if (s.links.look p).session = .down then .down else .linked := by
    obtain ⟨queue, slots, spaces, link⟩ := s.cleared_port p
    rw [link, PortLink.softReset_eq]
    exact ⟨queue, slots, spaces, rfl, rfl, rfl, rfl, rfl⟩
  have retained := s.rank.retainedAfterReset_iff
  refine ⟨_, rfl, ?_⟩
  cases thot : s.refresh.thot with
  | false =>
    exact ⟨rfl, rfl, rfl, rfl, rfl, rfl, banks, holds, rfl, rfl, rfl, rfl, rfl, rfl, rfl, rfl, rfl, rfl, retained, ports, rfl, rfl,
      rfl, rfl, rfl, rfl, rfl, rfl, rfl, rfl⟩
  | true =>
    rw [if_pos rfl, s.cleared_takeThot]
    exact ⟨rfl, rfl, rfl, rfl, rfl, rfl, banks, holds, rfl, rfl, rfl, rfl, rfl, rfl, rfl, rfl, rfl, rfl, retained, ports, rfl, rfl,
      rfl, rfl, rfl, rfl, rfl, rfl, rfl, s.cleared_alert⟩

end Sys2Proof.Proofs
end

section
/-! PROOFS. That every command answers next, and the order in which the arbiter grants (R60, R63 to R67): O3 and O7. -/

namespace Sys2Proof

open Machine

/-- No command changes what is the model's own: the queue and the counter of free values (assumptions 3 and 4). -/
theorem Instr.over_pending_freeIndex (c : Instr) (s t : State) :
    (c.over s t).pending = s.pending ∧ (c.over s t).freeIndex = s.freeIndex := by
  cases c <;> exact ⟨rfl, rfl⟩

/-- Where an item of a `flatMap` comes from: one item of the list, and all the items that precede it. -/
theorem flatMap_split {α β : Type} (f : α → List β) (l : List α) (before : List β) (x : β) (after : List β)
    (h : l.flatMap f = before ++ x :: after) :
    ∃ l₁ a l₂ ahead behind, l = l₁ ++ a :: l₂ ∧ f a = ahead ++ x :: behind ∧ before = l₁.flatMap f ++ ahead := by
  induction l generalizing before with
  | nil => simp at h
  | cons a l ih =>
    have later (rest : List β) (hrest : l.flatMap f = rest ++ x :: after) (hb : before = f a ++ rest) :
        ∃ l₁ a' l₂ ahead behind, a :: l = l₁ ++ a' :: l₂ ∧ f a' = ahead ++ x :: behind ∧
          before = l₁.flatMap f ++ ahead := by
      obtain ⟨l₁, a', l₂, ahead, behind, rfl, split, rfl⟩ := ih rest hrest
      exact ⟨a :: l₁, a', l₂, ahead, behind, rfl, split, by simp [hb]⟩
    rw [List.flatMap_cons, List.append_eq_append_iff] at h
    obtain ⟨rest, hb, hrest⟩ | ⟨tail, hfa, htail⟩ := h
    · exact later rest hrest hb
    · cases tail with
      | nil => exact later [] htail.symm (by simpa using hfa.symm)
      | cons y behind =>
        obtain ⟨rfl, -⟩ := List.cons.inj htail
        exact ⟨[], a, l, before, behind, rfl, hfa, rfl⟩

end Sys2Proof

namespace Sys2Proof.Machine

/-! ### The ready offers in order (R65, R66, R67) -/

/-- The lowest bank whose revocation close is ready is the one found (R65). -/
theorem State.readyRevocation_lowest (s : State) (b : Bank) (ready : s.revocationReady b = true)
    (lowest : ∀ b' < b, s.revocationReady b' = false) : s.readyRevocation = some b := by
  obtain ⟨lower, higher, banks⟩ := List.append_of_mem (mem_allBanks b)
  have sorted : allBanks.Pairwise (· < ·) := by decide
  rw [banks, List.pairwise_append] at sorted
  refine List.find?_eq_some_iff_append.mpr ⟨ready, lower, higher, banks, fun b' member => ?_⟩
  simp [lowest b' (sorted.2.2 b' member b List.mem_cons_self)]

/-- The round lists the ports by their distance from the pointer (R66). -/
theorem State.round_sorted (s : State) :
    s.round.Pairwise fun p q => (p - s.arbiter.pointer).val < (q - s.arbiter.pointer).val := by
  unfold State.round
  generalize s.arbiter.pointer = pointer
  revert pointer
  decide

/-- The round takes every port. -/
theorem State.mem_round (s : State) (p : Port) : p ∈ s.round := by
  unfold State.round
  generalize s.arbiter.pointer = pointer
  revert p pointer
  decide

theorem State.mem_readyOf_iff (s : State) (aged : Bool) (p q : Port) (e : Entry) :
    (q, e) ∈ s.readyOf aged p ↔ p = q ∧ e ∈ (s.queues.look q).entries ∧ e.aged = aged ∧ s.isReady q e = true := by
  simp only [State.readyOf, List.mem_map, List.mem_filter, Bool.and_eq_true, beq_iff_eq, Prod.mk.injEq]
  constructor
  · rintro ⟨x, member, rfl, rfl⟩
    exact ⟨rfl, member⟩
  · rintro ⟨rfl, member⟩
    exact ⟨e, member, rfl, rfl⟩

theorem State.mem_readyRequests_iff (s : State) (aged : Bool) (p : Port) (e : Entry) :
    (p, e) ∈ s.readyRequests aged ↔ e ∈ (s.queues.look p).entries ∧ e.aged = aged ∧ s.isReady p e = true := by
  refine ⟨s.mem_readyRequests aged p e, fun ready => ?_⟩
  exact List.mem_flatMap.mpr ⟨p, s.mem_round p, (s.mem_readyOf_iff aged p p e).mpr ⟨rfl, ready⟩⟩

/-- The ready candidates of a port stand in the order of its queue. -/
theorem State.readyOf_split (s : State) (aged : Bool) (p q : Port) (e : Entry) (ahead behind : List (Port × Entry))
    (h : s.readyOf aged q = ahead ++ (p, e) :: behind) :
    ∃ before after, (s.queues.look p).entries = before ++ e :: after ∧
      ∀ x ∈ before, x.aged = aged → s.isReady p x = true → (p, x) ∈ ahead := by
  obtain ⟨rfl, -⟩ := (s.mem_readyOf_iff aged q p e).mp (h ▸ by simp)
  obtain ⟨l₁, l₂, hl, rfl, h₂⟩ := List.map_eq_append_iff.mp h
  obtain ⟨e', l₃, rfl, he, -⟩ := List.map_eq_cons_iff.mp h₂
  obtain ⟨-, rfl⟩ := Prod.mk.inj he
  obtain ⟨k₁, k₂, entries, rfl, hk₂⟩ := List.filter_eq_append_iff.mp hl
  obtain ⟨k₃, k₄, rfl, unready, -⟩ := List.filter_eq_cons_iff.mp hk₂
  refine ⟨k₁ ++ k₃, k₄, by simp [entries], fun x member age ready => ?_⟩
  have wanted : (x.aged == aged && s.isReady q x) = true := by simp [age, ready]
  obtain first | last := List.mem_append.mp member
  · exact List.mem_map_of_mem (List.mem_filter.mpr ⟨first, wanted⟩)
  · exact absurd wanted (unready x last)

/-- What stands before a ready request among all of its class: the ready requests of its port that its queue has earlier, and
those of every port the round takes earlier (R66, R67). -/
theorem State.readyRequests_split (s : State) (aged : Bool) (p : Port) (e : Entry) (ahead behind : List (Port × Entry))
    (h : s.readyRequests aged = ahead ++ (p, e) :: behind) :
    (∃ before after, (s.queues.look p).entries = before ++ e :: after ∧
      ∀ x ∈ before, x.aged = aged → s.isReady p x = true → (p, x) ∈ ahead) ∧
    ∀ q x, (q, x) ∈ s.readyRequests aged → (q - s.arbiter.pointer).val < (p - s.arbiter.pointer).val → (q, x) ∈ ahead := by
  obtain ⟨l₁, p', l₂, ahead', behind', round, ofPort, rfl⟩ := flatMap_split _ _ _ _ _ h
  obtain ⟨rfl, -⟩ := (s.mem_readyOf_iff aged p' p e).mp (ofPort ▸ by simp)
  constructor
  · obtain ⟨before, after, entries, earlier⟩ := s.readyOf_split aged p' p' e _ _ ofPort
    exact ⟨before, after, entries, fun x member age ready => List.mem_append_right _ (earlier x member age ready)⟩
  · intro q x member nearer
    have sorted := s.round_sorted
    have inRound := s.mem_round q
    rw [round, List.pairwise_append, List.pairwise_cons] at sorted
    obtain ⟨-, ⟨farther, -⟩, -⟩ := sorted
    rw [round, List.mem_append, List.mem_cons] at inRound
    have ready := (s.mem_readyOf_iff aged q q x).mpr ⟨rfl, s.mem_readyRequests aged q x member⟩
    obtain earlier | rfl | later := inRound
    · exact List.mem_append_left _ (List.mem_flatMap.mpr ⟨q, earlier, ready⟩)
    · exact absurd nearer (Nat.lt_irrefl _)
    · exact absurd nearer (Nat.lt_asymm (farther q later))

/-! ### The four classes (R63) -/

/-- A list that is not empty has an oldest. -/
theorem oldest_eq_none_iff (l : List (Port × Entry)) : oldest l = none ↔ l = [] := by
  cases l with
  | nil => simp [oldest]
  | cons x l =>
    simp only [oldest, reduceCtorEq, iff_false]
    repeat' split
    all_goals simp

theorem State.grant_operation {s : State} {op : RankOperation} (offered : s.operationOffer = some op)
    (ready : s.operationReady op = true) : s.grant = some (.operation op) := by
  have found : s.readyOperation = some op := by
    rw [State.readyOperation, offered, Option.filter_some, if_pos ready]
  simp [State.grant, found]

theorem State.readyOperation_eq_none {s : State} (h : ∀ op, s.operationOffer = some op → s.operationReady op = false) :
    s.readyOperation = none := by
  rw [State.readyOperation, Option.filter_eq_none_iff]
  intro op offered
  simp [h op offered]

theorem State.readyRevocation_eq_none {s : State} (h : ∀ b, s.revocationReady b = false) : s.readyRevocation = none := by
  simp [State.readyRevocation, h]

theorem State.grant_revocation {s : State} {b : Bank} (noOperation : s.readyOperation = none)
    (found : s.readyRevocation = some b) : s.grant = some (.revocation b) := by
  simp [State.grant, noOperation, found]

/-- Which request a grant of class 3 or 4 takes: the oldest of the aged ones, or with none of those the first of the round. -/
theorem State.grant_request_cases {s : State} {aged : Bool} {p : Port} {e : Entry}
    (granted : s.grant = some (.request aged p e)) :
    (aged = true ∧ oldest (s.readyRequests true) = some (p, e)) ∨
      (aged = false ∧ s.readyRequests true = [] ∧ ∃ rest, s.readyRequests false = (p, e) :: rest) := by
  simp only [State.grant] at granted
  split at granted
  · cases granted
  · split at granted
    · cases granted
    · split at granted
      next found => cases granted; exact .inl ⟨rfl, found⟩
      next noneAged =>
        split at granted
        next => cases granted
        next rest first => cases granted; exact .inr ⟨rfl, (oldest_eq_none_iff _).mp noneAged, rest, first⟩

/-- With nothing of the higher classes ready, a ready request makes the arbiter grant one (R60). -/
theorem State.grant_request_of_ready {s : State} (noOperation : s.readyOperation = none)
    (noRevocation : s.readyRevocation = none) {p : Port} {e : Entry} (entry : e ∈ (s.queues.look p).entries)
    (ready : s.isReady p e = true) : ∃ aged p e, s.grant = some (.request aged p e) := by
  have member := (s.mem_readyRequests_iff e.aged p e).mpr ⟨entry, rfl, ready⟩
  simp only [State.grant, noOperation, noRevocation]
  split
  next => exact ⟨_, _, _, rfl⟩
  next noneAged =>
    rw [oldest_eq_none_iff] at noneAged
    cases aged : e.aged with
    | true => simp [aged, noneAged] at member
    | false =>
      rw [aged] at member
      split
      next empty => simp [empty] at member
      next => exact ⟨_, _, _, rfl⟩

/-- The aged request granted has waited longest, then is nearest the pointer, then earliest in its queue (R66). -/
theorem State.oldest_aged_order {s : State} {p : Port} {e : Entry} (found : oldest (s.readyRequests true) = some (p, e)) :
    (∀ q, ∀ x ∈ (s.queues.look q).entries, s.isReady q x = true → x.aged = true → e.accepted ≤ x.accepted ∧
      (e.accepted = x.accepted → (p - s.arbiter.pointer).val ≤ (q - s.arbiter.pointer).val)) ∧
    ∃ before after, (s.queues.look p).entries = before ++ e :: after ∧
      ∀ x ∈ before, s.isReady p x = true → x.aged = true → e.accepted < x.accepted := by
  obtain ⟨ahead, behind, requests, newer, noOlder⟩ := oldest_spec _ _ found
  obtain ⟨⟨before, after, entries, inQueue⟩, inRound⟩ := s.readyRequests_split true p e _ _ requests
  refine ⟨fun q x entry ready age => ?_, before, after, entries, fun x member ready age =>
    newer (p, x) (inQueue x member age ready)⟩
  have member := (s.mem_readyRequests_iff true q x).mpr ⟨entry, age, ready⟩
  constructor
  · rw [requests, List.mem_append, List.mem_cons] at member
    obtain first | same | last := member
    · exact Nat.le_of_lt (newer (q, x) first)
    · cases same; exact Nat.le_refl _
    · exact noOlder (q, x) last
  · intro tie
    by_contra nearer
    exact absurd tie (Nat.ne_of_lt (newer (q, x) (inRound q x member (Nat.lt_of_not_le nearer))))

/-- With no aged request ready, the request granted is of the first port of the round with a ready one, and the earliest in its
queue (R67). -/
theorem State.first_of_round_order {s : State} {p : Port} {e : Entry} {rest : List (Port × Entry)}
    (noneAged : s.readyRequests true = []) (first : s.readyRequests false = (p, e) :: rest) :
    (∀ q, ∀ x ∈ (s.queues.look q).entries, s.isReady q x = true → x.aged = false ∧
      (p - s.arbiter.pointer).val ≤ (q - s.arbiter.pointer).val) ∧
    ∃ before after, (s.queues.look p).entries = before ++ e :: after ∧ ∀ x ∈ before, s.isReady p x = false := by
  have unaged (q : Port) (x : Entry) (entry : x ∈ (s.queues.look q).entries) (ready : s.isReady q x = true) :
      x.aged = false := by
    by_contra age
    have member := (s.mem_readyRequests_iff true q x).mpr ⟨entry, by simpa using age, ready⟩
    simp [noneAged] at member
  obtain ⟨⟨before, after, entries, inQueue⟩, inRound⟩ := s.readyRequests_split false p e [] rest first
  constructor
  · intro q x entry ready
    refine ⟨unaged q x entry ready, Nat.le_of_not_lt fun nearer => ?_⟩
    have member := (s.mem_readyRequests_iff false q x).mpr ⟨entry, unaged q x entry ready, ready⟩
    exact List.not_mem_nil (inRound q x member nearer)
  · refine ⟨before, after, entries, fun x member => Bool.eq_false_iff.mpr fun ready => ?_⟩
    have entry : x ∈ (s.queues.look p).entries := entries ▸ List.mem_append_left _ member
    exact List.not_mem_nil (inQueue x member (unaged p x entry ready) ready)

end Sys2Proof.Machine

namespace Sys2Proof.Proofs

open Sys2Proof Sys2Proof.Machine

/-- Settles O3: every command completes by `exec_answers`, and `Instr.over` takes neither the queue nor the counter from it. -/
theorem everyCommandAnswersNext : Obligations.EveryCommandAnswersNext := by
  intro c s
  obtain ⟨t, answer, -, -, -, -, -, freeIndex, pending⟩ := exec_answers c s
  obtain ⟨overPending, overIndex⟩ := c.over_pending_freeIndex s t
  exact ⟨t, answer, pending.trans overPending, freeIndex.trans overIndex⟩

/-- Settles O7: class by class; in the two classes of requests, by what stands before the one granted. -/
theorem grantFollowsTheClasses : Obligations.GrantFollowsTheClasses := by
  intro s
  refine ⟨fun op offered ready => State.grant_operation offered ready, fun notReady => ?_⟩
  have noOperation := State.readyOperation_eq_none notReady
  refine ⟨fun b ready lowest => State.grant_revocation noOperation (s.readyRevocation_lowest b ready lowest),
    fun noneReady => ⟨fun aged p e granted => ?_, fun ⟨p, e, entry, ready⟩ =>
      State.grant_request_of_ready noOperation (State.readyRevocation_eq_none noneReady) entry ready⟩⟩
  obtain ⟨rfl, found⟩ | ⟨rfl, noneAged, rest, first⟩ := State.grant_request_cases granted
  · obtain ⟨entry, age, ready⟩ := s.mem_readyRequests true p e (oldest_mem _ _ found)
    obtain ⟨longest, before, after, entries, newer⟩ := State.oldest_aged_order found
    exact ⟨entry, ready, age, fun q x hx hr ha => ⟨rfl, longest q x hx hr ha⟩,
      ⟨before, after, entries, fun _ => newer, nofun⟩, nofun⟩
  · obtain ⟨entry, age, ready⟩ := s.mem_readyRequests false p e (first ▸ List.mem_cons_self)
    obtain ⟨nearest, before, after, entries, unready⟩ := State.first_of_round_order noneAged first
    exact ⟨entry, ready, age, fun q x hx hr ha => absurd ha (by simp [(nearest q x hx hr).1]),
      ⟨before, after, entries, nofun, fun _ => unready⟩, fun _ q x hx hr => (nearest q x hx hr).2⟩

end Sys2Proof.Proofs
end

section
/-! PROOFS. What keeps the invariants of the rank and of the drain wherever the rank stays in its state (R75 to R84, R90, R128). -/

namespace Sys2Proof.Machine

/-! ### The drain apart from the rank (Table 5-1) -/

/-- The drain by itself and with the banks: none exactly with an empty purpose set, urgent only with REFRESH, SERVICE only with all
banks CLOSED (Table 5-1, R80). -/
structure State.DrainSound (s : State) : Prop where
  empty : s.drain.phase = .none ↔ s.drain.purposes = .empty
  urgent : s.drain.urgent = true → s.drain.purposes.refresh = true
  service : s.drain.phase = .service → ∀ b, (s.banks.look b).state = .closed

/-- The purposes as the rank and the Calibration Unit ask for them: none in OFFLINE, SLEEP, CALIBRATE and STOP each with its cause
(R84, R87, R106, Table 8-1). -/
structure State.Asks (s : State) (u : Purposes) : Prop where
  offline : s.rank.state = .offline → u = .empty
  sleep : u.sleep = s.rank.sleepBegun
  calibrate : u.calibrate = s.calibration.shortDue
  stop : u.stop = true ↔ s.rank.state = .stopping

theorem State.drainInv_iff (s : State) : s.DrainInv ↔ s.DrainSound ∧ s.Asks s.drain.purposes := by
  constructor
  · rintro ⟨empty, offline, urgent, service, sleep, calibrate, stop⟩
    exact ⟨⟨empty, urgent, service⟩, ⟨fun h => empty.mp (offline h), sleep, calibrate, stop⟩⟩
  · rintro ⟨⟨empty, urgent, service⟩, ⟨offline, sleep, calibrate, stop⟩⟩
    exact ⟨empty, fun h => empty.mpr (offline h), urgent, service, sleep, calibrate, stop⟩

theorem Purposes.add_ne_empty (v : Purposes) (u : Purpose) : v.add u ≠ .empty := by cases u <;> simp [Purposes.add, Purposes.empty]

theorem Purposes.isEmpty_iff (v : Purposes) : v.isEmpty = true ↔ v = .empty := by
  obtain ⟨refresh, calibrate, sleep, stop⟩ := v
  revert refresh calibrate sleep stop
  decide

theorem Purposes.add_refresh (v : Purposes) (u : Purpose) (has : v.refresh = true ∨ u = .refresh) : (v.add u).refresh = true := by
  cases u <;> simp_all [Purposes.add]

/-- CLOSED banks stay CLOSED where the banks move (R2). -/
theorem BankMoves.closed {why : Bank → Owner → RevokeReason → Prop} {s t : State} (h : BankMoves why s t) (b : Bank) :
    (t.banks.look b).state = .closed ↔ (s.banks.look b).state = .closed := (h.banks b).closed_iff

/-- Any revocation at all, for what is told of the banks whatever they are taken back for. -/
def anyCause : Bank → Owner → RevokeReason → Prop := fun _ _ _ => True

/-- A sound drain stays so where it is as it was and no bank opens. -/
theorem State.DrainSound.of_drain {s t : State} (h : s.DrainSound) (drain : t.drain = s.drain)
    (closed : ∀ b, (s.banks.look b).state = .closed → (t.banks.look b).state = .closed) : t.DrainSound :=
  ⟨by rw [drain]; exact h.empty, by rw [drain]; exact h.urgent, fun service b => closed b (h.service (drain ▸ service) b)⟩

/-- A drain that has started is sound (R75, R78, R80). -/
theorem State.beginDrain_sound (s : State) (u : Purpose) (urgent : Bool) (h : urgent = true → u = .refresh) :
    (s.beginDrain u urgent).DrainSound := by
  have drain := s.beginDrain_drain u urgent
  have moves : BankMoves anyCause s (s.beginDrain u urgent) := s.beginDrain_moves u urgent fun _ _ _ _ _ => trivial
  refine ⟨?_, ?_, fun service b => ?_⟩
  · rw [drain]
    refine ⟨fun none => ?_, fun empty => absurd empty (Purposes.add_ne_empty _ u)⟩
    dsimp only at none
    repeat' split at none
    all_goals cases none
  · rw [drain]
    exact fun urgent => Purposes.add_refresh _ u (.inr (h urgent))
  · rw [drain] at service
    refine (moves.closed b).mpr (s.allClosed_iff.mp ?_ b)
    by_contra notAll
    rw [if_neg notAll] at service
    dsimp only at service
    split at service <;> cases service

/-- A purpose added to a drain that stands is one more in the set, and grace can end (R75, R78, R79). -/
theorem State.addPurpose_drain (s : State) (u : Purpose) (urgent : Bool) (active : s.drain.phase ≠ .none) :
    (s.addPurpose u urgent).drain.purposes = s.drain.purposes.add u ∧
      (s.addPurpose u urgent).drain.urgent = (s.drain.urgent || urgent) ∧ (s.addPurpose u urgent).drain.phase ≠ .none ∧
      ((s.addPurpose u urgent).drain.phase = .service → s.drain.phase = .service ∨ s.allClosed = true) := by
  unfold State.addPurpose
  split
  · exact absurd ‹_› active
  · rename_i t grace
    rw [id, apply_ite State.drain, State.endGrace_drain]
    split
    · refine ⟨rfl, rfl, ?_, fun service => .inr ?_⟩
      · dsimp only
        split <;> nofun
      · exact by_contra fun notAll => nomatch ite_eq_left_iff.mp service notAll
    · exact ⟨rfl, rfl, active, fun service => .inl service⟩
  · exact ⟨rfl, rfl, active, fun service => .inl service⟩
  · exact ⟨rfl, rfl, active, fun service => .inl service⟩

/-- A purpose added keeps a drain sound, with one purpose more (R75, R78). -/
theorem State.DrainSound.addPurpose {s : State} (h : s.DrainSound) (u : Purpose) (urgent : Bool) (hu : urgent = true → u = .refresh) :
    (s.addPurpose u urgent).DrainSound ∧ (s.addPurpose u urgent).drain.purposes = s.drain.purposes.add u := by
  by_cases phase : s.drain.phase = .none
  · have started : s.addPurpose u urgent = (s.beginDrain u urgent).sendDrain s u urgent := by
      rw [s.addPurpose_others, if_pos phase]
      rfl
    have drain : (s.addPurpose u urgent).drain = (s.beginDrain u urgent).drain := by rw [started]; simp
    refine ⟨(s.beginDrain_sound u urgent hu).of_drain drain fun b => ?_, ?_⟩
    · rw [started]
      simp
    · rw [drain, s.beginDrain_drain, h.empty.mp phase]
  · obtain ⟨purposes, marked, active, service⟩ := s.addPurpose_drain u urgent phase
    have moves : BankMoves anyCause s (s.addPurpose u urgent) :=
      s.addPurpose_moves u urgent id (fun _ _ _ _ _ => trivial) fun _ => .of_eq rfl rfl
    refine ⟨⟨?_, fun is => ?_, fun is b => (moves.closed b).mpr ?_⟩, purposes⟩
    · rw [purposes]
      exact ⟨fun none => absurd none active, fun empty => absurd empty (Purposes.add_ne_empty _ u)⟩
    · rw [purposes]
      rw [marked, Bool.or_eq_true] at is
      exact Purposes.add_refresh _ u (is.imp h.urgent hu)
    · rcases service is with was | all
      · exact h.service was b
      · exact s.allClosed_iff.mp all b

/-- A purpose that leaves the set keeps a drain sound, with that purpose less (R82, R83). -/
theorem State.DrainSound.dropPurpose {s : State} (h : s.DrainSound) (u : Purpose) :
    (s.dropPurpose u).DrainSound ∧ (s.dropPurpose u).drain.purposes = s.drain.purposes.drop u := by
  have drain : (s.dropPurpose u).drain = s.drain.without (s.drain.purposes.drop u) := rfl
  by_cases last : (s.drain.purposes.drop u).isEmpty = true
  · have idle : (s.dropPurpose u).drain = .idle := by rw [drain, Drain.without, if_pos last]
    refine ⟨⟨?_, ?_, ?_⟩, ?_⟩
    · rw [idle]
      exact ⟨fun _ => rfl, fun _ => rfl⟩
    · rw [idle]
      nofun
    · rw [idle]
      nofun
    · rw [idle, (Purposes.isEmpty_iff _).mp last]
      rfl
  · have less : (s.dropPurpose u).drain =
        { s.drain with purposes := s.drain.purposes.drop u, urgent := s.drain.urgent && (s.drain.purposes.drop u).refresh } := by
      rw [drain, Drain.without, if_neg last]
    have some : s.drain.purposes.drop u ≠ .empty := mt (Purposes.isEmpty_iff _).mpr last
    refine ⟨⟨?_, ?_, ?_⟩, ?_⟩
    · rw [less]
      refine ⟨fun none => absurd ?_ some, fun empty => absurd empty some⟩
      rw [h.empty.mp none]
      cases u <;> rfl
    · rw [less]
      exact fun both => (Bool.and_eq_true_iff.mp both).2
    · rw [less]
      exact h.service
    · rw [less]

/-- Completion keeps a drain sound, with its purposes (R80). -/
theorem State.DrainSound.completeDrain {s : State} (h : s.DrainSound) :
    s.completeDrain.DrainSound ∧ s.completeDrain.drain.purposes = s.drain.purposes := by
  by_cases waits : (∃ t, s.drain.phase = .grace t) ∨ s.drain.phase = .closing
  · have drain := s.completeDrain_drain waits
    have active : s.drain.phase ≠ .none := by
      rintro none
      simp [none] at waits
    refine ⟨⟨?_, ?_, fun service b => ?_⟩, by rw [drain]⟩
    · rw [drain, ← h.empty]
      refine ⟨fun none => ?_, fun none => absurd none active⟩
      dsimp only at none
      split at none
      · cases none
      · exact none
    · rw [drain]
      exact h.urgent
    · rw [drain] at service
      dsimp only at service
      split at service
      · simpa using s.allClosed_iff.mp ‹_› b
      · simpa using h.service service b
  · have same : s.completeDrain = s := by
      unfold State.completeDrain
      split
      · rfl
      · exact absurd (.inl ⟨_, ‹_›⟩) waits
      · exact absurd (.inr ‹_›) waits
      · rfl
    rw [same]
    exact ⟨h, rfl⟩

/-- Grace end keeps the drain sound, with its purposes (R79). -/
theorem State.DrainSound.endGrace {s : State} (h : s.DrainSound) (active : s.drain.phase ≠ .none) :
    s.endGrace.DrainSound ∧ s.endGrace.drain.purposes = s.drain.purposes := by
  have drain := s.endGrace_drain
  refine ⟨⟨?_, ?_, fun service b => (s.endGrace_banks b).1.closed_iff.mpr ?_⟩, by rw [drain]⟩
  · rw [drain, ← h.empty]
    refine ⟨fun none => ?_, fun none => absurd none active⟩
    dsimp only at none
    split at none <;> cases none
  · rw [drain]
    exact h.urgent
  · rw [drain] at service
    refine s.allClosed_iff.mp ?_ b
    by_contra notAll
    rw [if_neg notAll] at service
    cases service

end Sys2Proof.Machine
end

section
/-! PROOFS. The happenings in which the rank stays in its state: each keeps the invariants of the rank and of the drain (R44, R75 to R84,
R102, R128, R139, R143). -/

namespace Sys2Proof.Machine

/-! ### The rank that stays in its state -/

/-- The interval timer runs in the rank states of these names (R90). -/
theorem RankState.runs_eq (x : RankState) : x.runs = decide (x.name ∈ [.active, .powerDown, .stopping]) := by cases x <;> rfl

/-- Stop can be pending in the rank states of these names (R121, R122). -/
theorem RankState.mayHoldStop_eq (x : RankState) : x.mayHoldStop = decide (x.name ∈ [.powerDown, .waking]) := by cases x <;> rfl

theorem RankState.eq_active_iff (x : RankState) : x = .active ↔ x.name = .active := by cases x <;> simp [RankState.name]

theorem RankState.eq_offline_iff (x : RankState) : x = .offline ↔ x.name = .offline := by cases x <;> simp [RankState.name]

theorem RankState.eq_stopping_iff (x : RankState) : x = .stopping ↔ x.name = .stopping := by cases x <;> simp [RankState.name]

/-- From `s` to `t` the rank stays in a state of the same name, its flags and the interval timer's run are as they were, the idle timer
is started in ACTIVE alone, and the drain keeps its invariant. -/
structure Steady (s t : State) : Prop where
  name : t.rank.state.name = s.rank.state.name
  mayBeRetained : t.rank.state.mayBeRetained = s.rank.state.mayBeRetained
  retained : t.rank.retained = s.rank.retained
  stopPending : t.rank.stopPending = s.rank.stopPending
  timer : t.refresh.timer.isSome = s.refresh.timer.isSome
  idle : t.rank.idle ≠ .stopped → s.rank.idle ≠ .stopped ∨ s.rank.state = .active
  drain : s.DrainInv → t.DrainInv

theorem Steady.refl (s : State) : Steady s s := ⟨rfl, rfl, rfl, rfl, rfl, .inl, id⟩

theorem Steady.trans {s t u : State} (h : Steady s t) (g : Steady t u) : Steady s u where
  name := g.name.trans h.name
  mayBeRetained := g.mayBeRetained.trans h.mayBeRetained
  retained := g.retained.trans h.retained
  stopPending := g.stopPending.trans h.stopPending
  timer := g.timer.trans h.timer
  idle running := by
    rcases g.idle running with was | active
    · exact h.idle was
    · rw [RankState.eq_active_iff, h.name, ← RankState.eq_active_iff] at active
      exact .inr active
  drain := g.drain ∘ h.drain

theorem Steady.ite {s t u : State} {P : Prop} [Decidable P] (h : Steady s t) (g : Steady s u) : Steady s (if P then t else u) := by
  split
  · exact h
  · exact g

theorem Steady.foldl {ι : Type} {f : State → ι → State} (h : ∀ u i, Steady u (f u i)) (l : List ι) (s : State) :
    Steady s (l.foldl f s) := by
  induction l generalizing s with
  | nil => exact .refl s
  | cons i l ih => exact (h s i).trans (ih _)

/-- The rank's invariant goes on while the rank stays in its state (R90, R121, R122, R124). -/
theorem Steady.rankInv {s t : State} (h : Steady s t) (inv : s.RankInv) : t.RankInv := by
  obtain ⟨timer, idle, stop, retained⟩ := inv
  have state : t.rank.state = .active ↔ s.rank.state = .active := by
    rw [RankState.eq_active_iff, h.name, ← RankState.eq_active_iff]
  refine ⟨?_, fun running => state.mpr ((h.idle running).elim idle id), fun pending => ?_, fun kept => ?_⟩
  · rw [h.timer, timer, RankState.runs_eq, RankState.runs_eq, h.name]
  · rw [RankState.mayHoldStop_eq, h.name, ← RankState.mayHoldStop_eq]
    exact stop (h.stopPending ▸ pending)
  · rw [h.mayBeRetained]
    exact retained (h.retained ▸ kept)

/-! ### What leaves the rank and the drain as they are -/

/-- What the invariants of the rank and of the drain read, the banks and the rank state apart. -/
@[simp, reducible] def State.SameControl (s t : State) : Prop :=
  t.rank.retained = s.rank.retained ∧ t.rank.stopPending = s.rank.stopPending ∧ t.rank.sleepBegun = s.rank.sleepBegun ∧
    t.rank.idle = s.rank.idle ∧ t.refresh.timer.isSome = s.refresh.timer.isSome ∧
    t.calibration.shortDue = s.calibration.shortDue ∧ t.drain = s.drain

/-- The purposes asked for go by the rank state's name, sleep begun and the calibration due. -/
theorem State.Asks.of_parts {s t : State} {u : Purposes} (h : s.Asks u) (name : t.rank.state.name = s.rank.state.name)
    (begun : t.rank.sleepBegun = s.rank.sleepBegun) (due : t.calibration.shortDue = s.calibration.shortDue) : t.Asks u where
  offline state := h.offline (by rwa [RankState.eq_offline_iff, name, ← RankState.eq_offline_iff] at state)
  sleep := h.sleep.trans begun.symm
  calibrate := h.calibrate.trans due.symm
  stop := by rw [h.stop, RankState.eq_stopping_iff, RankState.eq_stopping_iff, name]

/-- A rank state that goes by the same name, everything else being as it was and no bank opening. -/
theorem Steady.of_name {s t : State} (name : t.rank.state.name = s.rank.state.name)
    (mayBeRetained : t.rank.state.mayBeRetained = s.rank.state.mayBeRetained) (same : s.SameControl t)
    (closed : ∀ b, (s.banks.look b).state = .closed → (t.banks.look b).state = .closed) : Steady s t := by
  obtain ⟨retained, stopPending, begun, idle, timer, due, drain⟩ := same
  refine ⟨name, mayBeRetained, retained, stopPending, timer, fun running => .inl (idle ▸ running), fun inv => ?_⟩
  obtain ⟨sound, asks⟩ := s.drainInv_iff.mp inv
  refine t.drainInv_iff.mpr ⟨sound.of_drain drain closed, ?_⟩
  rw [drain]
  exact asks.of_parts name begun due

/-- What leaves the rank, the drain and the banks. -/
theorem Steady.of_same {s t : State} (h : t.rank.state = s.rank.state ∧ t.banks = s.banks ∧ s.SameControl t) : Steady s t := by
  obtain ⟨state, banks, same⟩ := h
  exact .of_name (by rw [state]) (by rw [state]) same fun b closed => by rwa [banks]

/-- What leaves the rank and the drain, and moves the banks. -/
theorem Steady.of_moves {why : Bank → Owner → RevokeReason → Prop} {s t : State} (h : t.rank.state = s.rank.state ∧ s.SameControl t)
    (moves : BankMoves why s t) : Steady s t :=
  .of_name (by rw [h.1]) (by rw [h.1]) h.2 fun b => (moves.closed b).mpr

theorem Steady.trans_same {s t u : State} (h : Steady s t)
    (same : u.rank.state = t.rank.state ∧ u.banks = t.banks ∧ t.SameControl u) : Steady s u := h.trans (.of_same same)

theorem Evaluated.steady {b : Bank} {s t : State} (h : Evaluated b s t) : Steady s t := by
  have drain : t.drain = s.drain := h.rest .drain (by decide)
  have refresh : t.refresh = s.refresh := h.rest .refresh (by decide)
  have calibration : t.calibration = s.calibration := h.rest .calibration (by decide)
  exact .of_moves (by simp [h.rank, drain, refresh, calibration]) (h.bankMoves anyCause)

theorem Steady.reevaluate {s t : State} (h : Steady s t) (b : Bank) : Steady s (t.reevaluate b) :=
  h.trans (t.reevaluate_evaluated b).steady

theorem Steady.evalFront {s t : State} (h : Steady s t) (p : Port) (b : Bank) : Steady s (t.evalFront p b) :=
  h.trans (t.evalFront_evaluated p b).steady

/-- The idle timer starts where the rank is idle, thus ACTIVE (R97, R124). -/
theorem State.judgeIdle_steady (s : State) : Steady s s.judgeIdle := by
  obtain ⟨i, judged⟩ := s.judgeIdle_withIdle
  have same : Steady s (s.withIdle s.rank.idle) := .refl s
  rw [judged]
  refine ⟨rfl, rfl, rfl, rfl, rfl, fun running => ?_, same.drain⟩
  by_cases active : s.rank.state = .active
  · exact .inr active
  · have stopped : s.judgeIdle.rank.idle = .stopped := by simpa [State.settle] using State.settle_idle active
    rw [judged] at stopped
    exact absurd stopped running

theorem Steady.judgeIdle {s t : State} (h : Steady s t) : Steady s t.judgeIdle := h.trans t.judgeIdle_steady

/-- The end of a happening (R54, R124). -/
theorem Steady.settle {s t : State} (h : Steady s t) : Steady s t.settle := h.judgeIdle.trans_same (by simp [State.settle])

/-- A rank state replaced by one of its name that may keep the retained flag as it might. -/
theorem State.setRank_steady (s : State) (r : RankState) (name : r.name = s.rank.state.name)
    (mayBeRetained : r.mayBeRetained = s.rank.state.mayBeRetained) : Steady s (s.setRank r) :=
  .of_name name mayBeRetained ⟨rfl, rfl, rfl, rfl, rfl, rfl, rfl⟩ fun _ => id

theorem State.wantExit_steady (s : State) : Steady s s.wantExit := by
  unfold State.wantExit
  split
  · rename_i state
    exact s.setRank_steady _ (by rw [state]; rfl) (by rw [state]; rfl)
  all_goals exact .refl s

theorem State.wantWake_steady (s : State) : Steady s s.wantWake := by
  unfold State.wantWake
  split
  · rename_i state
    exact s.setRank_steady _ (by rw [state]; rfl) (by rw [state]; rfl)
  all_goals exact .refl s

theorem Steady.wantExit {s t : State} (h : Steady s t) : Steady s t.wantExit := h.trans t.wantExit_steady

theorem Steady.wantWake {s t : State} (h : Steady s t) : Steady s t.wantWake := h.trans t.wantWake_steady

theorem Steady.judgeHotExit {s t : State} (h : Steady s t) : Steady s t.judgeHotExit := .ite h.wantExit h

/-! ### Purposes added and removed (R75, R78, R82, R83) -/

/-- A change of the drain that leaves the rank. -/
theorem Steady.of_drain {s t : State}
    (same : t.rank = s.rank ∧ t.refresh.timer.isSome = s.refresh.timer.isSome)
    (drain : s.DrainInv → t.DrainInv) : Steady s t := by
  obtain ⟨rank, timer⟩ := same
  exact ⟨by rw [rank], by rw [rank], by rw [rank], by rw [rank], timer, by rw [rank]; exact .inl, drain⟩

/-- Completion of a drain (R80). -/
theorem State.completeDrain_steady (s : State) : Steady s s.completeDrain := by
  refine .of_drain (by simp) fun inv => ?_
  obtain ⟨sound, asks⟩ := s.drainInv_iff.mp inv
  obtain ⟨completed, purposes⟩ := sound.completeDrain
  refine (State.drainInv_iff _).mpr ⟨completed, ?_⟩
  rw [purposes]
  exact asks.of_parts (by simp) (by simp) (by simp)

/-- A bank that closes. -/
theorem State.closeBank_steady (s : State) (b : Bank) (f : BankEntry → BankEntry) (closes : ∀ e, (f e).state = .closed) :
    Steady s (s.modBank b f) := by
  refine .of_name (by simp) (by simp) (by simp) fun x closed => ?_
  rw [State.modBank, Table.look_modify]
  split
  · exact closes _
  · exact closed

/-- Grace end (R79). -/
theorem State.endGrace_steady (s : State) (active : s.drain.phase ≠ .none) : Steady s s.endGrace := by
  refine .of_drain (by simp) fun inv => ?_
  obtain ⟨sound, asks⟩ := s.drainInv_iff.mp inv
  obtain ⟨ended, purposes⟩ := sound.endGrace active
  refine (State.drainInv_iff _).mpr ⟨ended, ?_⟩
  rw [purposes]
  exact asks.of_parts (by simp) (by simp) (by simp)

/-- REFRESH added, out of OFFLINE (R92, R93). -/
theorem State.addRefresh_steady (s : State) (urgent : Bool) (state : s.rank.state ≠ .offline) :
    Steady s (s.addPurpose .refresh urgent) := by
  refine .of_drain (by simp) fun inv => ?_
  obtain ⟨sound, asks⟩ := s.drainInv_iff.mp inv
  obtain ⟨added, purposes⟩ := sound.addPurpose .refresh urgent fun _ => rfl
  refine (State.drainInv_iff _).mpr ⟨added, ?_⟩
  rw [purposes]
  exact
    { offline := fun h => absurd (by simpa using h) state
      sleep := by simpa [Purposes.add] using asks.sleep
      calibrate := by simpa [Purposes.add] using asks.calibrate
      stop := by simpa [Purposes.add] using asks.stop }

/-- REFRESH served (R82, R95). -/
theorem State.dropRefresh_steady (s : State) : Steady s (s.dropPurpose .refresh) := by
  refine .of_drain (by simp) fun inv => ?_
  obtain ⟨sound, asks⟩ := s.drainInv_iff.mp inv
  obtain ⟨dropped, purposes⟩ := sound.dropPurpose .refresh
  refine (State.drainInv_iff _).mpr ⟨dropped, ?_⟩
  rw [purposes]
  exact
    { offline := fun h => by rw [asks.offline (by simpa using h)]; rfl
      sleep := by simpa [Purposes.drop] using asks.sleep
      calibrate := by simpa [Purposes.drop] using asks.calibrate
      stop := by simpa [Purposes.drop] using asks.stop }

/-- A short calibration that becomes due out of OFFLINE (R108). -/
theorem State.shortCalibrationDue_steady (s : State) (state : s.rank.state ≠ .offline) : Steady s s.shortCalibrationDue := by
  cases due : s.calibration.shortDue with
  | true => rw [State.shortCalibrationDue_of_due due]; exact .refl s
  | false =>
    refine .of_drain (by simp) fun inv => ?_
    obtain ⟨sound, asks⟩ := s.drainInv_iff.mp inv
    let v : State := { s with calibration := { s.calibration with shortDue := true } }
    have marked : v.DrainSound := sound.of_drain rfl fun _ => id
    obtain ⟨added, purposes⟩ := marked.addPurpose .calibrate false nofun
    rw [State.shortCalibrationDue_eq due]
    refine (State.drainInv_iff _).mpr ⟨added, ?_⟩
    rw [purposes]
    exact
      { offline := fun h => absurd (by simpa using h) state
        sleep := by simpa [Purposes.add] using asks.sleep
        calibrate := by simp [Purposes.add]
        stop := by simpa [Purposes.add] using asks.stop }

/-! ### Unanimity (R128) -/

/-- Unanimity holds in ACTIVE and POWERDOWN alone (R128). -/
theorem State.unanimous_state {s : State} (h : s.unanimous = true) : s.rank.state ≠ .offline ∧ s.rank.state ≠ .stopping := by
  constructor <;> intro state <;> simp [State.unanimous, state, RankState.name] at h

/-- SLEEP withdrawn with the sleep entry (R83, R128). -/
theorem State.withdrawSleep_steady (s : State) : Steady s ((s.dropPurpose .sleep).setBegun false) := by
  refine ⟨rfl, rfl, rfl, rfl, rfl, .inl, fun inv => ?_⟩
  obtain ⟨sound, asks⟩ := s.drainInv_iff.mp inv
  obtain ⟨dropped, purposes⟩ := sound.dropPurpose .sleep
  refine (State.drainInv_iff _).mpr ⟨dropped.of_drain rfl fun _ => id, ?_⟩
  change State.Asks _ (s.dropPurpose .sleep).drain.purposes
  rw [purposes]
  exact
    { offline := fun h => by rw [asks.offline h]; rfl
      sleep := rfl
      calibrate := asks.calibrate
      stop := asks.stop }

/-- A sleep entry begun, with SLEEP in the drain (R128). -/
theorem State.beginSleep_drainInv {s v : State} (unanimous : s.unanimous = true) (inv : s.DrainInv) (sound : v.DrainSound)
    (purposes : v.drain.purposes = s.drain.purposes.add .sleep) (rank : v.rank = (s.setBegun true).rank)
    (calibration : v.calibration = s.calibration) : v.DrainInv := by
  obtain ⟨-, asks⟩ := s.drainInv_iff.mp inv
  have state : v.rank.state = s.rank.state := by rw [rank]; rfl
  refine v.drainInv_iff.mpr ⟨sound, ?_⟩
  rw [purposes]
  exact
    { offline := fun h => absurd (state ▸ h) (State.unanimous_state unanimous).1
      sleep := by rw [rank]; rfl
      calibrate := by rw [calibration]; exact asks.calibrate
      stop := by rw [state]; exact asks.stop }

/-- A judgement of unanimity, with the happening's other effects in between (R76, R128). -/
theorem State.judgeUnanimity_steady (s : State) (others : State → State) (ho : ∀ v, Steady v (others v)) :
    Steady s (s.judgeUnanimity others) := by
  have begun (v : State) (unanimous : s.unanimous = true) (rank : v.rank = (s.setBegun true).rank)
      (refresh : v.refresh = s.refresh) (drain : s.DrainInv → v.DrainInv) : Steady s (others v.wantExit.judgeIdle) := by
    have first : Steady s v := by
      refine ⟨?_, ?_, ?_, ?_, by rw [refresh], ?_, drain⟩
      all_goals rw [rank]
      exacts [rfl, rfl, rfl, rfl, .inl]
    exact first.wantExit.judgeIdle.trans (ho _)
  have marked (inv : s.DrainInv) : (s.setBegun true).DrainSound := (s.drainInv_iff.mp inv).1.of_drain rfl fun _ => id
  obtain e | ⟨-, -, e⟩ | ⟨unanimous, -, -, e⟩ | ⟨unanimous, -, phase, e⟩ := s.judgeUnanimity_cases others <;> rw [e]
  · exact ho s
  · exact s.withdrawSleep_steady.judgeIdle.trans (ho _)
  · refine begun _ unanimous (by simp) (by simp) fun inv => ?_
    obtain ⟨added, purposes⟩ := (marked inv).addPurpose .sleep false nofun
    exact State.beginSleep_drainInv unanimous inv added purposes (by simp) (by simp)
  · have started (inv : s.DrainInv) : ((s.setBegun true).beginDrain .sleep false).DrainInv := by
      refine State.beginSleep_drainInv unanimous inv (State.beginDrain_sound _ _ _ nofun) ?_ (by simp) (by simp)
      rw [State.beginDrain_drain, (s.drainInv_iff.mp inv).1.empty.mp phase]
    exact (begun _ unanimous (by simp) (by simp) started).trans_same (by simp)

theorem Steady.judgeUnanimity {s t : State} (h : Steady s t) : Steady s t.judgeUnanimity :=
  h.trans (t.judgeUnanimity_steady id .refl)

theorem Steady.judgeRemoval {s t : State} (h : Steady s t) (old : State) : Steady s (t.judgeRemoval old) :=
  .ite h h.judgeUnanimity

theorem State.afterRequest_steady (s : State) (b : Bank) (changed : Bool) : Steady s (s.afterRequest b changed) :=
  (Steady.ite ((Steady.refl s).reevaluate b) (.refl s)).judgeUnanimity.settle

/-! ### Temperature (R101 to R103) -/

theorem State.reportThermal_steady (s : State) : Steady s s.reportThermal := by
  have woken : Steady s (if s.refresh.thermal = .hot then s.wantWake else s) := .ite s.wantWake_steady (.refl s)
  exact woken.judgeHotExit.judgeUnanimity

theorem State.evalThermal_steady (s : State) (c : ThermalCause) (reply : State → State) (h : ∀ v, Steady v (reply v)) :
    Steady s (s.evalThermal c reply) := by
  have changed : Steady s (s.thermalChange s.thermalNext c) := by
    refine .of_same (by simp [State.thermalChange, State.timerAfterChange]; split <;> simp)
  exact .ite (h s) ((changed.trans (h _)).trans (State.reportThermal_steady _))

theorem State.takeThot_steady (s : State) (level : Bool) : Steady s (s.takeThot level) := by
  have recorded : Steady s { s with refresh := { s.refresh with thot := level } } := .of_same (by simp)
  exact recorded.trans (State.evalThermal_steady _ _ _ .refl)

/-! ### Revocations and sessions (R17, R85, R86, R139, R143) -/

theorem State.revoke_steady (s : State) (b : Bank) (reason : RevokeReason) : Steady s (s.revoke b reason) :=
  .of_moves (why := anyCause) (by simp) (s.revoke_moves b reason fun _ _ => .inl trivial)

theorem State.revokeAllOwned_steady (s : State) (o : Owner) (reason : RevokeReason) (l : List Bank) :
    Steady s (l.foldl (State.revokeOwned o reason) s) :=
  .foldl (fun u b => .of_moves (why := anyCause) (by simp) (u.revokeOwned_moves o reason b trivial)) l s

theorem State.endSession_steady (s : State) (p : Port) (e : Byte) (c : SessionEnd) : Steady s (s.endSession p e c) := by
  unfold State.endSession
  extract_lets o u v w x
  have first : Steady s v := .of_same (by simp [v, u])
  have forgotten : Steady v (v.forget o) := by
    refine .of_name (by simp) (by simp) (by simp) fun b closed => ?_
    rw [State.forget, Table.look_map]
    exact closed
  have second : Steady s w := (first.trans forgotten).trans (State.revokeAllOwned_steady _ _ _ _)
  have third : Steady s (x.setVote p none) := by
    refine second.trans_same ?_
    cases c <;> simp [x, State.setVote, SessionEnd.fault?]
  refine third.trans (State.judgeUnanimity_steady _ _ fun v => ?_)
  have cleared : Steady v { v with refresh := { v.refresh with table := v.refresh.table.put p none } } := .of_same (by simp)
  exact cleared.trans (State.evalThermal_steady _ _ _ .refl)

theorem State.openSession_steady (s : State) (p : Port) (tag : Byte) : Steady s (s.openSession p tag) := by
  unfold State.openSession
  extract_lets e u v w x
  have opened : Steady s x := .of_same (by simp [x, w, v, u, State.setVote])
  exact opened.judgeUnanimity.wantWake

/-! ### Requests (R44, R45, R136, R137) -/

theorem State.accept_steady (s : State) (p : Port) (tag : Byte) (b : Bank) (a : Arrival) (slot : Fin 8) :
    Steady s (s.accept p tag b a slot) := by
  unfold State.accept
  extract_lets front u v w x
  have joined : Steady s (w.setVote p (some .awake)) := .of_same (by simp [w, v, u, State.setVote])
  have reported : Steady s x := joined.judgeIdle.judgeUnanimity.wantExit.wantWake
  exact .ite (reported.evalFront p b) reported

theorem State.arrive_steady (s : State) (p : Port) (tag bank : Byte) (a : Arrival) : Steady s (s.arrive p tag bank a) := by
  unfold State.arrive
  split
  · exact .of_same (by simp)
  · exact s.accept_steady p tag _ a _

/-- A sound frame: its block's own effects, or none on the rank, the drain and the banks (R136, R137). -/
theorem State.receive_steady (s : State) (p : Port) (h : Header) (isJoin : Bool) (route : State → State)
    (hr : ∀ u, Steady u (route u)) : Steady s (s.receive p h isJoin route) := by
  have counted : Steady s (s.inSequence p) := .of_same (by simp)
  obtain e | e | ⟨r, e⟩ | e := s.receive_cases p h isJoin route <;> rw [e]
  · exact .refl s
  · exact .of_same (by simp)
  · exact counted.trans_same (by simp)
  · exact counted.trans (hr _)

theorem State.takeJoin_steady (s : State) (p : Port) (tag revision : Byte) : Steady s (s.takeJoin p tag revision) := by
  unfold State.takeJoin
  split
  · exact .of_same (by simp)
  · split
    · exact (s.openSession_steady p tag).settle
    · exact ((s.endSession_steady p _ .rejoin).trans (State.openSession_steady _ p tag)).settle

theorem State.takeLeave_steady (s : State) (p : Port) (tag : Byte) : Steady s (s.takeLeave p tag) := by
  unfold State.takeLeave
  split <;> exact .of_same (by simp)

theorem State.takeExtend_steady (s : State) (p : Port) (tag bank : Byte) : Steady s (s.takeExtend p tag bank) := by
  refine .of_moves (why := anyCause) ?_ (s.takeExtend_moves p tag bank)
  unfold State.takeExtend
  split <;> simp

theorem State.takeCancel_steady (s : State) (p : Port) (tag target : Byte) : Steady s (s.takeCancel p tag target) := by
  unfold State.takeCancel
  split
  · exact .of_same (by simp)
  · rename_i e _
    have removed : Steady s (((s.removeTag p target).reply p target .cancelled).freeEntrySlot p e) := .of_same (by simp)
    exact (Steady.ite (removed.evalFront p e.bank) removed).judgeUnanimity.settle

theorem State.takeSleepVote_steady (s : State) (p : Port) (tag : Byte) : Steady s (s.takeSleepVote p tag) := by
  have voted : Steady s ((s.setVote p (some .voted)).reply p tag .voteNoted) := .of_same (by simp [State.setVote])
  exact (Steady.ite voted.judgeHotExit.judgeUnanimity voted.judgeHotExit).settle

theorem State.takeWake_steady (s : State) (p : Port) (tag : Byte) : Steady s (s.takeWake p tag) := by
  have awake : Steady s ((s.setVote p (some .awake)).reply p tag .wakeNoted) := .of_same (by simp [State.setVote])
  exact (Steady.ite awake.judgeHotExit.judgeUnanimity awake).wantWake.settle

theorem State.takeReport_steady (s : State) (p : Port) (tag : Byte) (t : BitVec 16) : Steady s (s.takeReport p tag t) := by
  have recorded : Steady s { s with
    refresh := { s.refresh with table := s.refresh.table.put p (some (clampTemperature t)) } } := .of_same (by simp)
  exact (recorded.trans (State.evalThermal_steady _ _ _ fun v => .of_same (by simp))).settle

theorem State.queued_steady (s : State) (p : Port) (h : Header) (bank : Byte) (a : Arrival) : Steady s (s.queued p h bank a) :=
  s.receive_steady p h false _ fun u => (u.arrive_steady p h.tag bank a).settle

end Sys2Proof.Machine
end

section
/-! PROOFS. The happenings in which the rank goes to another state, on the invariants of the rank and of the drain (R117 to R131). -/

namespace Sys2Proof.Machine

/-! ### Both invariants together -/

/-- The invariants of the rank's state and of the drain. -/
structure State.Governed (s : State) : Prop where
  rank : s.RankInv
  drain : s.DrainInv

theorem Steady.governed {s t : State} (h : Steady s t) (g : s.Governed) : t.Governed := ⟨h.rankInv g.rank, h.drain g.drain⟩

/-- Out of ACTIVE the idle timer is STOPPED (R124). -/
theorem State.RankInv.idle_stopped {s : State} (inv : s.RankInv) (state : s.rank.state ≠ .active) : s.rank.idle = .stopped := by
  obtain ⟨-, idle, -⟩ := inv
  exact not_not.mp (mt idle state)

/-- Stop is pending where it can be (R121, R122). -/
theorem State.RankInv.not_pending {s : State} (inv : s.RankInv) (state : s.rank.state.mayHoldStop = false) :
    s.rank.stopPending = false := by
  obtain ⟨-, -, pending, -⟩ := inv
  exact Bool.eq_false_iff.mpr fun is => nomatch state.symm.trans (pending is)

/-- The retained flag is set where it can be (R115). -/
theorem State.RankInv.not_retained {s : State} (inv : s.RankInv) (state : s.rank.state.mayBeRetained = false) :
    s.rank.retained = false := by
  obtain ⟨-, -, -, retained⟩ := inv
  exact Bool.eq_false_iff.mpr fun is => nomatch state.symm.trans (retained is)

/-- The interval timer runs where it is to (R90). -/
theorem State.RankInv.timer_of_runs {s : State} (inv : s.RankInv) : s.refresh.timer.isSome = s.rank.state.runs := inv.1

/-- A move between rank states that are neither OFFLINE nor STOPPING leaves the drain's invariant. -/
theorem State.DrainInv.moved {s t : State} (inv : s.DrainInv) (left : s.rank.state ≠ .stopping)
    (offline : t.rank.state ≠ .offline) (stopping : t.rank.state ≠ .stopping)
    (same : t.drain = s.drain ∧ t.banks = s.banks ∧ t.rank.sleepBegun = s.rank.sleepBegun ∧
      t.calibration.shortDue = s.calibration.shortDue) : t.DrainInv := by
  obtain ⟨drain, banks, begun, due⟩ := same
  obtain ⟨sound, asks⟩ := s.drainInv_iff.mp inv
  refine t.drainInv_iff.mpr ⟨sound.of_drain drain fun b closed => by rwa [banks], ?_⟩
  rw [drain]
  exact
    { offline := fun is => absurd is offline
      sleep := asks.sleep.trans begun.symm
      calibrate := asks.calibrate.trans due.symm
      stop := ⟨fun is => absurd (asks.stop.mp is) left, fun is => absurd is stopping⟩ }

/-- A rank state replaced by one of the same name, the retained flag standing only where it can. -/
theorem State.Governed.setRank {s : State} (g : s.Governed) {r : RankState} (name : r.name = s.rank.state.name)
    (kept : s.rank.retained = true → r.mayBeRetained = true) : (s.setRank r).Governed := by
  obtain ⟨⟨timer, idle, pending, -⟩, inv⟩ := g
  have state : r = .active ↔ s.rank.state = .active := by rw [RankState.eq_active_iff, name, ← RankState.eq_active_iff]
  obtain ⟨sound, asks⟩ := s.drainInv_iff.mp inv
  refine ⟨⟨?_, fun running => state.mpr (idle running), fun is => ?_, kept⟩,
    (State.drainInv_iff _).mpr ⟨sound.of_drain rfl fun _ => id, asks.of_parts name rfl rfl⟩⟩
  · change s.refresh.timer.isSome = r.runs
    rw [timer, RankState.runs_eq, RankState.runs_eq, name]
  · change r.mayHoldStop = true
    rw [RankState.mayHoldStop_eq, name, ← RankState.mayHoldStop_eq]
    exact pending is

/-! ### STOPPING and OFFLINE (R121, R123) -/

/-- A STOP carried out, out of any state in which the interval timer runs and the retained flag is clear (R121). -/
theorem State.carryOutStop_governed {s : State} (inv : s.DrainInv) (timer : s.refresh.timer.isSome = true)
    (retained : s.rank.retained = false) : s.carryOutStop.Governed := by
  have rank := s.carryOutStop_rank
  obtain ⟨sound, asks⟩ := s.drainInv_iff.mp inv
  have stopped : s.stopped.DrainSound := sound.of_drain (by simp [State.stopped, State.toStopping, State.told]) fun b closed => by
    simpa [State.stopped, State.toStopping, State.told] using closed
  obtain ⟨added, purposes⟩ := stopped.addPurpose .stop false nofun
  rw [← State.carryOutStop_eq] at added purposes
  have was : s.stopped.drain = s.drain := by simp [State.stopped, State.toStopping, State.told]
  rw [was] at purposes
  refine ⟨⟨?_, ?_, ?_, ?_⟩, (State.drainInv_iff _).mpr ⟨added, ?_⟩⟩
  · rw [rank]
    simpa [RankState.runs] using timer
  · rw [rank]
    exact fun running => absurd rfl running
  · rw [rank]
    nofun
  · rw [rank]
    exact fun is => nomatch retained.symm.trans is
  · rw [purposes]
    exact
      { offline := by rw [rank]; nofun
        sleep := by rw [rank]; exact asks.sleep
        calibrate := by simpa [Purposes.add] using asks.calibrate
        stop := by rw [rank]; exact ⟨fun _ => rfl, fun _ => rfl⟩ }

/-- OFFLINE meets both invariants whatever it is entered from (R74, R90, R106, R123). -/
theorem State.enterOffline_governed (s : State) (retained : Bool) : (s.enterOffline retained).Governed := by
  unfold State.enterOffline
  extract_lets v
  rw [State.become_eq]
  exact ⟨⟨rfl, fun running => absurd rfl running, nofun, fun _ => rfl⟩,
    ⟨⟨fun _ => rfl, fun _ => rfl⟩, fun _ => rfl, nofun, nofun, rfl, rfl, ⟨nofun, nofun⟩⟩⟩

/-! ### ACTIVE (R119, R126, R131) -/

/-- The rank ACTIVE, with its interval timer started (R90, R117, R119). -/
def State.activated (s : State) : State :=
  { s.become .active with refresh := { s.refresh with timer := some (s.time + s.reload) } }

theorem State.becomeActive_steady (s : State) : Steady s.activated s.becomeActive := by
  have same : s.becomeActive = s.activated.judgeUnanimity := by
    simp only [State.becomeActive, State.activated, State.become_eq]
    rfl
  rw [same]
  exact (Steady.refl _).judgeUnanimity

theorem State.activated_rank (s : State) : s.activated.rank = { s.rank with state := .active } := by
  simp [State.activated, State.become, State.setRank]

theorem State.activated_drainInv {s : State} (inv : s.DrainInv) (left : s.rank.state ≠ .stopping) : s.activated.DrainInv :=
  inv.moved left (by rw [s.activated_rank]; nofun) (by rw [s.activated_rank]; nofun)
    ⟨by simp [State.activated], by simp [State.activated], by rw [s.activated_rank], by simp [State.activated]⟩

/-- The rank becomes ACTIVE with neither stop pending nor the retained flag set (R119, R120, R131). -/
theorem State.becomeActive_governed {s : State} (inv : s.DrainInv) (left : s.rank.state ≠ .stopping)
    (pending : s.rank.stopPending = false) (retained : s.rank.retained = false) : s.becomeActive.Governed := by
  refine s.becomeActive_steady.governed ⟨⟨?_, fun _ => ?_, fun is => ?_, fun is => ?_⟩, s.activated_drainInv inv left⟩
  · rw [s.activated_rank]
    rfl
  · rw [s.activated_rank]
  · rw [s.activated_rank] at is
    exact nomatch pending.symm.trans is
  · rw [s.activated_rank] at is
    exact nomatch retained.symm.trans is

/-- The wake end, with a STOP that was pending carried out (R122, R131). -/
theorem State.endWake_governed {s : State} (g : s.Governed) {t : Nat} (state : s.rank.state = .waking t) : s.endWake.Governed := by
  have left : s.rank.state ≠ .stopping := by rw [state]; nofun
  have retained := g.rank.not_retained (by rw [state]; rfl)
  have active := s.becomeActive_steady
  have pending : s.becomeActive.rank.stopPending = s.rank.stopPending := by rw [active.stopPending, s.activated_rank]
  unfold State.endWake
  dsimp only
  refine (Steady.refl _).settle.governed ?_
  split
  · refine State.carryOutStop_governed (active.drain (s.activated_drainInv g.drain left)) ?_ ?_
    · rw [active.timer]
      rfl
    · rw [active.retained, s.activated_rank]
      exact retained
  · rename_i unstopped
    exact State.becomeActive_governed g.drain left (by simpa [pending] using unstopped) retained

/-! ### Power-down (R125, R126) -/

/-- A move to a rank state that is neither OFFLINE nor STOPPING, with no stop pending, the idle timer stopped, and the interval timer
running in both states or in neither. -/
theorem State.Governed.moved {s t : State} (g : s.Governed) (left : s.rank.state ≠ .stopping)
    (unstopped : s.rank.state.mayHoldStop = false) (offline : t.rank.state ≠ .offline) (stopping : t.rank.state ≠ .stopping)
    (runs : t.rank.state.runs = s.rank.state.runs) (idle : t.rank.idle = .stopped)
    (retained : t.rank.retained = true → t.rank.state.mayBeRetained = true)
    (kept : t.rank.stopPending = s.rank.stopPending ∧ t.rank.sleepBegun = s.rank.sleepBegun ∧ t.refresh.timer = s.refresh.timer ∧
      t.calibration.shortDue = s.calibration.shortDue ∧ t.drain = s.drain ∧ t.banks = s.banks) : t.Governed := by
  obtain ⟨pending, begun, timer, due, drain, banks⟩ := kept
  refine ⟨⟨?_, fun running => absurd idle running, fun is => ?_, retained⟩,
    g.drain.moved left offline stopping ⟨drain, banks, begun, due⟩⟩
  · rw [timer, runs]
    exact g.rank.timer_of_runs
  · exact nomatch (g.rank.not_pending unstopped).symm.trans (pending.symm.trans is)

theorem State.issuePowerDownEntry_governed {s : State} (g : s.Governed) (state : s.rank.state = .active) :
    s.issuePowerDownEntry.Governed := by
  let d := s.drive .powerDownEntry (busRaises 1)
  let r : RankState := .powerDown ⟨d.time + d.prof.tPDM, false, false⟩
  let v : State := { d.become r with rank := { (d.become r).rank with idle := .stopped } }
  have issued : s.issuePowerDownEntry = v.recordOperation.judgeUnanimity.settle := rfl
  have rank : v.recordOperation.rank = { s.rank with state := r, idle := .stopped } := by simp [v, d, State.become_eq]
  have retained := g.rank.not_retained (by rw [state]; rfl)
  rw [issued]
  refine (Steady.refl v.recordOperation).judgeUnanimity.settle.governed (g.moved ?_ ?_ ?_ ?_ ?_ ?_ ?_ ?_)
  · rw [state]; nofun
  · rw [state]; rfl
  · rw [rank]; nofun
  · rw [rank]; nofun
  · rw [rank, state]; rfl
  · rw [rank]
  · rw [rank]
    exact fun is => nomatch retained.symm.trans is
  · simp [v, d, State.become_eq, State.told]

theorem State.issuePowerDownExit_governed {s : State} (g : s.Governed) {r : PowerDown} (state : s.rank.state = .powerDown r) :
    s.issuePowerDownExit.Governed := by
  unfold State.issuePowerDownExit
  extract_lets u v
  refine (Steady.trans_same (.refl v) (by simp)).settle.governed ?_
  have driven : Steady s u := .of_same (by simp [u])
  have g' : u.Governed := driven.governed g
  have state' : u.rank.state = .powerDown r := by simp [u, state]
  have timer : u.refresh.timer.isSome = true := by rw [g'.rank.timer_of_runs, state']; rfl
  have retained := g'.rank.not_retained (by rw [state']; rfl)
  show State.Governed (if u.rank.stopPending then u.carryOutStop else (u.become .active).judgeUnanimity)
  split
  · exact State.carryOutStop_governed g'.drain timer retained
  · rename_i unstopped
    refine (Steady.refl _).judgeUnanimity.governed ?_
    rw [State.become_eq]
    exact ⟨⟨timer, fun _ => rfl, fun is => absurd is unstopped, fun is => nomatch retained.symm.trans is⟩,
      g'.drain.moved (by rw [state']; nofun) nofun nofun ⟨rfl, rfl, rfl, rfl⟩⟩

/-! ### Self-refresh (R120, R123, R130, R131) -/

/-- The end of a happening leaves the rank's invariant in every state but ACTIVE, where the idle timer has yet to stop (R124). -/
theorem State.settle_rankInv {s : State} (state : s.rank.state ≠ .active) (timer : s.refresh.timer.isSome = s.rank.state.runs)
    (pending : s.rank.stopPending = true → s.rank.state.mayHoldStop = true)
    (retained : s.rank.retained = true → s.rank.state.mayBeRetained = true) : s.settle.RankInv := by
  obtain ⟨i, rank⟩ := s.settle_rank
  have stopped := State.settle_idle state
  refine ⟨?_, fun running => absurd stopped running, ?_, ?_⟩
  · rw [rank]
    simpa using timer
  · rw [rank]
    exact pending
  · rw [rank]
    exact retained

theorem State.issueSelfRefreshEntry_governed {s : State} (g : s.Governed) (offers : s.Offers .selfRefreshEntry) :
    s.issueSelfRefreshEntry.Governed := by
  obtain ⟨⟨-, state⟩, noRefresh, noCalibrate, sleepOrStop⟩ := offers
  obtain ⟨-, asks⟩ := s.drainInv_iff.mp g.drain
  cases stop : s.drain.purposes.stop with
  | true =>
    obtain ⟨holds, -, issued⟩ := s.issueSelfRefreshEntry_stop stop
    rw [issued]
    refine (Steady.refl _).settle.governed ?_
    exact ⟨⟨rfl, fun running => absurd rfl running, nofun, fun _ => rfl⟩,
      ⟨⟨fun _ => rfl, fun _ => rfl⟩, fun _ => rfl, nofun, nofun, rfl, rfl, ⟨nofun, nofun⟩⟩⟩
  | false =>
    have active : s.rank.state = .active := state.resolve_right fun is => nomatch stop.symm.trans (asks.stop.mpr is)
    have purposes : s.drain.purposes = ⟨false, false, true, false⟩ := by
      have sleep := sleepOrStop.resolve_right fun is => nomatch stop.symm.trans is
      revert noRefresh noCalibrate sleep stop
      cases s.drain.purposes
      simp +contextual
    have pending := g.rank.not_pending (by rw [active]; rfl)
    have retained := g.rank.not_retained (by rw [active]; rfl)
    have undue : s.calibration.shortDue = false := asks.calibrate.symm.trans noCalibrate
    obtain ⟨holds, -, issued⟩ := s.issueSelfRefreshEntry_sleep purposes
    rw [issued]
    refine ⟨State.settle_rankInv nofun rfl (fun is => nomatch pending.symm.trans is) (fun is => nomatch retained.symm.trans is),
      (Steady.refl _).settle.drain ?_⟩
    exact ⟨⟨fun _ => rfl, fun _ => rfl⟩, nofun, nofun, nofun, rfl, undue.symm, ⟨nofun, nofun⟩⟩

/-- The rank's part of an exit: SLEEP to WAKING, or EXIT_WAIT timed (R120, R131). -/
theorem State.exitRank_governed {s : State} (g : s.Governed) : s.exitRank.Governed := by
  unfold State.exitRank
  split
  · rename_i state
    have retained := g.rank.not_retained (by rw [state]; rfl)
    rw [State.become_eq]
    refine g.moved (by rw [state]; nofun) (by rw [state]; rfl) nofun nofun (by rw [state]; rfl) ?_ ?_ ⟨rfl, rfl, rfl, rfl, rfl, rfl⟩
    · exact g.rank.idle_stopped (by rw [state]; nofun)
    · exact fun is => nomatch retained.symm.trans is
  · rename_i path phase state
    let v : State := { s with rank := { s.rank with retained := false } }
    have cleared : v.Governed := by
      obtain ⟨⟨timer, idle, pending, -⟩, inv⟩ := g
      exact ⟨⟨timer, idle, pending, nofun⟩, inv⟩
    exact cleared.setRank (by rw [state]; rfl) nofun
  · exact g

theorem State.issueSelfRefreshExit_governed {s : State} (g : s.Governed) (offers : s.Offers .selfRefreshExit) :
    s.issueSelfRefreshExit.Governed := by
  unfold State.issueSelfRefreshExit
  extract_lets d
  have driven : Steady s d := .of_same (by simp [d])
  have g' : d.Governed := driven.governed g
  let v := d.exitRank.votesAwake.locked
  have state : v.rank.state ≠ .offline := by
    change d.exitRank.rank.state ≠ .offline
    rcases offers with sleep | ⟨path, wait⟩
    · rw [State.exitRank_sleep (s := d) (by simpa [d] using sleep)]
      nofun
    · rw [State.exitRank_bringUp (s := d) (by simpa [d] using wait)]
      nofun
  have locked : Steady d.exitRank v := .of_same ⟨rfl, rfl, rfl, rfl, rfl, rfl, rfl, rfl, rfl⟩
  have reported : Steady d.exitRank d.exitRank.votesAwake.exitReports := by
    rw [State.exitReports_eq]
    exact (locked.trans (v.shortCalibrationDue_steady state)).trans_same (by simp [v, State.locked])
  exact (reported.trans_same (by simp)).settle.governed (State.exitRank_governed g')

/-! ### Bring-up (R118 to R120) -/

/-- A START begins bring-up, on the retained path where the flag is set (R118). -/
theorem State.firstPhase_name (s : State) : s.firstPhase.name = .bringUp := by
  unfold State.firstPhase
  split <;> rfl

theorem State.firstPhase_mayBeRetained {s : State} (retained : s.rank.retained = true) : s.firstPhase.mayBeRetained = true := by
  rw [State.firstPhase, if_pos retained]
  rfl

theorem State.takeStart_governed {s : State} (g : s.Governed) (state : s.rank.state = .offline) : s.takeStart.Governed := by
  let u := (s.setStatus .ok).become s.firstPhase
  let v : State := { u with refresh := { u.refresh with balance := 0, count := 0 } }
  have taken : s.takeStart = v.settle := rfl
  have rank : v.rank = { s.rank with status := .ok, state := s.firstPhase } := by
    simp only [v, u, State.become_eq]
    rfl
  have name := s.firstPhase_name
  rw [taken]
  refine (Steady.refl v).settle.governed (g.moved ?_ ?_ ?_ ?_ ?_ ?_ ?_ ?_)
  · rw [state]; nofun
  · rw [state]; rfl
  · rw [rank, Ne, RankState.eq_offline_iff, name]
    nofun
  · rw [rank, Ne, RankState.eq_stopping_iff, name]
    nofun
  · rw [rank, RankState.runs_eq, name, state]
    rfl
  · rw [rank]
    exact g.rank.idle_stopped (by rw [state]; nofun)
  · rw [rank]
    exact State.firstPhase_mayBeRetained
  · simp [v, u, State.become_eq, State.setStatus, State.told]

end Sys2Proof.Machine
end

section
/-! PROOFS. Every command keeps the invariants of the rank and of the drain (Table 5-1, Table 8-1, R80, R84, R87, R90, R106, R121 to
R124, R128). -/

namespace Sys2Proof.Machine

/-- An answer to a state whose rank and drain keep their invariants. -/
def State.Governs (s : State) (o : Host.Outcome State Fault Refusal) : Prop := s.Governed → ∀ t, o = .next t → t.Governed

theorem State.governs_next {s t : State} (h : s.Governed → t.Governed) : s.Governs (.next t) := by
  rintro g _ ⟨⟩
  exact h g

theorem State.governs_steady {s t : State} (h : Steady s t) : s.Governs (.next t) := State.governs_next h.governed

theorem State.governs_idle (s : State) : s.Governs (.next s) := State.governs_steady (.refl s)

/-- A happening that takes place only when it is due (assumption 2). -/
theorem State.governs_ite {s t : State} {P : Prop} [Decidable P] (h : P → s.Governs (.next t)) :
    s.Governs (if P then .next t else .next s) := by
  split
  · exact h ‹_›
  · exact s.governs_idle

/-! ### Resets (R115, R170) -/

theorem State.powerOn_governed (s : State) (lanes : Table Bool 4) : (s.powerOn lanes).Governed :=
  ⟨State.reset_rankInv, State.reset_drainInv⟩

theorem State.cleared_governed (s : State) : s.cleared.Governed := by
  obtain ⟨timer, idle, pending, -⟩ := State.reset_rankInv
  exact ⟨⟨timer, idle, pending, fun _ => rfl⟩, State.reset_drainInv⟩

theorem execPowerOnReset_governs (lanes : Table Bool 4) (thot : Bool) (s : State) : s.Governs (execPowerOnReset lanes thot s) :=
  State.governs_next fun _ => by
    split
    · exact (State.takeThot_steady _ true).governed (s.powerOn_governed lanes)
    · exact s.powerOn_governed lanes

theorem execSoftReset_governs (s : State) : s.Governs (execSoftReset s) :=
  State.governs_next fun _ => by
    split
    · exact (State.takeThot_steady _ true).governed s.cleared_governed
    · exact s.cleared_governed

/-! ### Links and sessions (R134, R141, R142, R145) -/

theorem execLinkDown_governs (p : Port) (s : State) : s.Governs (execLinkDown p s) := by
  have down : Steady s ((s.discardOutbound p).modLink p SessionEnd.lost.link) := .of_same (by simp)
  unfold execLinkDown
  split
  · exact s.governs_idle
  · exact State.governs_steady down.settle
  · exact State.governs_steady (s.endSession_steady p _ .lost).settle
  · exact State.governs_steady (s.endSession_steady p _ .lost).settle

theorem execHandedToLink_governs (p : Port) (s : State) : s.Governs (execHandedToLink p s) := by
  unfold execHandedToLink
  split
  · rename_i f _ _ _
    have handed : Steady s (s.handHead p f) := by
      refine .of_same ?_
      unfold State.handHead
      split <;> simp
    exact State.governs_steady handed.settle
  all_goals exact s.governs_idle

theorem State.reportLeave_steady (s : State) (o : Owner) : Steady s (s.reportLeave o) := .of_same (by simp)

theorem execReadyToLeave_governs (p : Port) (s : State) : s.Governs (execReadyToLeave p s) := by
  unfold execReadyToLeave
  split
  · rename_i e tag _
    have asked : Steady s (s.modLink p fun l => { l with session := .leaving e tag true false }) := .of_same (by simp)
    have revoked := asked.trans (State.revokeAllOwned_steady _ ⟨p, e⟩ .portLeft allBanks)
    exact State.governs_steady ((revoked.trans (State.reportLeave_steady _ ⟨p, e⟩)).judgeRemoval s).settle
  · exact s.governs_idle

theorem execLeaveComplete_governs (p : Port) (s : State) : s.Governs (execLeaveComplete p s) := by
  unfold execLeaveComplete
  split
  · rename_i e tag _
    have ended := s.endSession_steady p e .left
    exact State.governs_steady (ended.trans_same (u := (s.endSession p e .left).send p ⟨e, tag, .bye⟩) (by simp)).settle
  · exact s.governs_idle

theorem execBadKindFrame_governs (p : Port) (h : Header) (kind : Byte) (length : Nat) (s : State) :
    s.Governs (execBadKindFrame p h kind length s) := by
  unfold execBadKindFrame
  split
  · exact s.governs_idle
  · exact State.governs_steady (s.receive_steady p h _ _ fun u => .of_same (by simp))

/-! ### Leases, grace and the refresh interval (R10, R15, R79, R91) -/

theorem execLeaseWarning_governs (b : Bank) (s : State) : s.Governs (execLeaseWarning b s) := by
  unfold execLeaseWarning
  split
  · rename_i l state
    have warned : BankMoves anyCause s (s.sendWarning b l) := .of_lease (l' := { l with warned := true }) state rfl rfl rfl rfl rfl
    exact State.governs_ite fun _ => State.governs_steady (.of_moves (by simp) warned)
  all_goals exact s.governs_idle

theorem execLeaseExpiry_governs (b : Bank) (s : State) : s.Governs (execLeaseExpiry b s) := by
  unfold execLeaseExpiry
  split
  · refine State.governs_ite fun _ => State.governs_steady ?_
    have recorded (v : State) (p : Option Port) (d : FaultDetail) : Steady v (v.handFault .leaseExpired p (some b) d) :=
      .of_same (by simp)
    exact ((((s.revoke_steady b .expired).trans (recorded _ _ _)).reevaluate b).judgeRemoval s).settle
  all_goals exact s.governs_idle

theorem execGraceEnd_governs (s : State) : s.Governs (execGraceEnd s) := by
  refine State.governs_ite fun due => State.governs_steady ?_
  have active : s.drain.phase ≠ .none := fun none => by simp [State.graceDue, none] at due
  exact ((s.endGrace_steady active).judgeRemoval s).settle

/-- The interval timer's expiry, which finds the timer running and the rank thus out of OFFLINE (R90, R91). -/
theorem State.expireInterval_governed {s : State} (g : s.Governed) (running : s.refresh.timer.isSome = true) :
    s.expireInterval.Governed := by
  unfold State.expireInterval
  extract_lets marked u r v
  have state : s.rank.state ≠ .offline := by
    intro offline
    rw [g.rank.timer_of_runs, offline] at running
    cases running
  have owed : Steady s u := .of_same (by
    change s.owe.rank.state = _ ∧ s.owe.banks = _ ∧ s.SameControl s.owe
    unfold State.owe
    split <;> simp)
  have reloaded : Steady u v := ⟨rfl, rfl, rfl, rfl, by rw [owed.timer, running]; rfl, .inl, id⟩
  have kept : v.rank.state ≠ .offline := by
    rw [Ne, RankState.eq_offline_iff, reloaded.name, owed.name, ← RankState.eq_offline_iff]
    exact state
  have asked : Steady v (v.askRefresh marked) := by
    unfold State.askRefresh
    extract_lets w wanted x
    have counted : Steady v w := .ite (.of_same (by simp)) (.refl v)
    have same : w.rank = v.rank := by
      change (if _ then _ else _ : State).rank = _
      split <;> simp
    have added : Steady w x := .ite (w.addRefresh_steady marked (same ▸ kept)) (.refl w)
    exact .ite (counted.trans added).wantExit (counted.trans added)
  exact (((owed.trans reloaded).trans asked).judgeRemoval s).settle.governed g

theorem execIntervalTimerExpiry_governs (s : State) : s.Governs (execIntervalTimerExpiry s) := by
  refine State.governs_ite fun due => State.governs_next fun g => State.expireInterval_governed g ?_
  cases timer : s.refresh.timer with
  | none => simp [State.intervalDue, timer] at due
  | some t => rfl

theorem execEntryAged_governs (p : Port) (tag : Byte) (s : State) : s.Governs (execEntryAged p tag s) := by
  unfold execEntryAged
  split
  · exact s.governs_idle
  · exact State.governs_ite fun _ => State.governs_steady (.of_same (by simp))

/-! ### Bursts (R33, R150, R152) -/

theorem execWriteBurstStart_governs (s : State) : s.Governs (execWriteBurstStart s) := by
  unfold execWriteBurstStart
  split
  · exact s.governs_idle
  · exact State.governs_ite fun _ => State.governs_steady (.of_same (by simp [State.startBurst]))

theorem execReadBurstStart_governs (s : State) : s.Governs (execReadBurstStart s) := by
  unfold execReadBurstStart
  split
  · exact s.governs_idle
  · exact State.governs_ite fun _ => State.governs_steady (.of_same (by simp [State.startBurst]))

theorem State.finishWrite_steady (s : State) (b : Burst) : Steady s (s.finishWrite b) := by
  refine .of_same ?_
  simp only [State.finishWrite]
  repeat' split
  all_goals simp [State.endBurst, State.releaseTag]

theorem State.finishRead_steady (s : State) (b : Burst) (data : Block) : Steady s (s.finishRead b data) := by
  refine .of_same ?_
  simp only [State.finishRead]
  repeat' split
  all_goals simp [State.endBurst, State.releaseTag]

theorem execWriteDataEnd_governs (s : State) : s.Governs (execWriteDataEnd s) := by
  unfold execWriteDataEnd
  split
  · exact s.governs_idle
  · exact State.governs_ite fun _ => State.governs_steady (s.finishWrite_steady _).settle

theorem execReadDataArrival_governs (data : Block) (s : State) : s.Governs (execReadDataArrival data s) := by
  unfold execReadDataArrival
  split
  · exact s.governs_idle
  · exact State.governs_ite fun _ => State.governs_steady (s.finishRead_steady _ data).settle

/-! ### The issues of requests and revocation closes (R6 to R8, R19) -/

theorem State.addBurst_steady (s : State) (b : Burst) : Steady s (s.addBurst b) := .of_same ⟨rfl, rfl, rfl, rfl, rfl, rfl, rfl, rfl, rfl⟩

theorem Steady.recordRequest {s t : State} (h : Steady s t) (aged : Bool) (p : Port) : Steady s (t.recordRequest aged p) :=
  h.trans_same ⟨rfl, rfl, rfl, rfl, rfl, rfl, rfl, rfl, rfl⟩

theorem Steady.recordRevocation {s t : State} (h : Steady s t) : Steady s t.recordRevocation :=
  h.trans_same ⟨rfl, rfl, rfl, rfl, rfl, rfl, rfl, rfl, rfl⟩

theorem Steady.recordOperation {s t : State} (h : Steady s t) : Steady s t.recordOperation :=
  h.trans_same ⟨rfl, rfl, rfl, rfl, rfl, rfl, rfl, rfl, rfl⟩

/-- A row-open is issued with no drain active, so the bank it opens breaks no SERVICE (R55). -/
theorem State.issueRowOpen_steady (s : State) (aged : Bool) (p : Port) (e : Entry) (row : Row) (phase : s.drain.phase = .none) :
    Steady s (s.issueRowOpen aged p e row) := by
  let d := s.drive (.rowOpen e.bank row) (openRaises s.prof e.bank)
  let w : State := { d with holds := { d.holds with window := d.holds.window ++ [d.time] } }
  let v := w.modBank e.bank fun x => x.open (w.newLease p row)
  have opened : Steady s v := by
    refine .of_drain (by simp [v, w, d]) fun inv => ?_
    obtain ⟨⟨empty, urgent, -⟩, asks⟩ := s.drainInv_iff.mp inv
    have drain : v.drain = s.drain := by simp [v, w, d]
    refine (State.drainInv_iff _).mpr ⟨⟨?_, ?_, fun service => ?_⟩, ?_⟩
    · rw [drain]; exact empty
    · rw [drain]; exact urgent
    · rw [drain, phase] at service
      cases service
    · rw [drain]
      exact asks.of_parts (by simp [v, w, d]) (by simp [v, w, d]) (by simp [v, w, d])
  have answered := opened.trans_same (u := (v.removeFront p e.bank e.tag true).reply p e.tag .issued) (by simp)
  exact ((answered.evalFront p e.bank).recordRequest aged p).trans (State.afterRequest_steady _ e.bank true)

/-- A command driven, which leaves the rank, the drain and the banks (R60, R68). -/
theorem State.drive_steady (s : State) (c : BusCommand) (l : List (HoldId × Nat)) : Steady s (s.drive c l) := .of_same (by simp)

/-- An auto-close of the bank, or none (R8, R80). -/
theorem State.autoClose_steady (s : State) (b : Bank) (autoClose : Bool) : Steady s (s.autoClose b autoClose) :=
  .ite ((s.closeBank_steady b _ fun _ => rfl).trans (State.completeDrain_steady _)) (.refl s)

theorem State.issueColRead_steady (s : State) (aged : Bool) (p : Port) (e : Entry) (column : Column) (autoClose : Bool) :
    Steady s (s.issueColRead aged p e column autoClose) := by
  unfold State.issueColRead
  extract_lets d v w x
  have driven : Steady s v := (s.drive_steady _ _).trans (d.addBurst_steady _)
  have taken := (driven.trans (v.autoClose_steady e.bank autoClose)).trans_same
    (u := (w.removeFront p e.bank e.tag false).takeSpace p e.tag) (by simp [w])
  exact ((taken.evalFront p e.bank).recordRequest aged p).trans (State.afterRequest_steady _ e.bank autoClose)

theorem State.issueColWrite_steady (s : State) (aged : Bool) (p : Port) (e : Entry) (column : Column) (autoClose : Bool)
    (slot : Fin 8) : Steady s (s.issueColWrite aged p e column autoClose slot) := by
  unfold State.issueColWrite
  extract_lets d v w x y
  have driven : Steady s v := (s.drive_steady _ _).trans (d.addBurst_steady _)
  have taken := (driven.trans (v.autoClose_steady e.bank autoClose)).trans_same (u := x) (by simp [x, w])
  exact ((taken.evalFront p e.bank).recordRequest aged p).trans (State.afterRequest_steady _ e.bank autoClose)

theorem State.issueRowClose_steady (s : State) (aged : Bool) (p : Port) (e : Entry) : Steady s (s.issueRowClose aged p e) := by
  unfold State.issueRowClose
  extract_lets d v w
  have closed : Steady s v := ((s.drive_steady _ _).trans (d.closeBank_steady e.bank _ fun _ => rfl)).trans (State.completeDrain_steady _)
  have answered := closed.trans_same (u := (v.removeFront p e.bank e.tag true).reply p e.tag .issued) (by simp)
  exact ((answered.evalFront p e.bank).recordRequest aged p).trans (State.afterRequest_steady _ e.bank true)

theorem State.notice_steady (s : State) (p : Port) (m : Message) : Steady s (s.notice p m) := .of_same (by simp)

theorem State.issueRevocation_steady (s : State) (b : Bank) (r : Revocation) : Steady s (s.issueRevocation b r) := by
  unfold State.issueRevocation
  extract_lets old d v w x
  have told : Steady s v := (s.drive_steady _ _).trans (.ite (d.notice_steady _ _) (.refl d))
  have closed : Steady s w := (told.trans (v.closeBank_steady b _ fun _ => rfl)).trans (State.completeDrain_steady _)
  have reported : Steady s x := (closed.trans (w.reportLeave_steady r.owner)).recordRevocation
  exact ((reported.reevaluate b).judgeRemoval old).settle

theorem execRowOpenIssued_governs (s : State) : s.Governs (execRowOpenIssued s) := by
  unfold execRowOpenIssued
  split
  · exact s.governs_idle
  · rename_i aged p e granted
    split
    · rename_i row kind
      obtain ⟨-, -, -, conditions⟩ := State.granted_request granted
      rw [kind] at conditions
      exact State.governs_steady (s.issueRowOpen_steady aged p e row conditions.1)
    all_goals exact s.governs_idle

theorem execColReadIssued_governs (s : State) : s.Governs (execColReadIssued s) := by
  unfold execColReadIssued
  split
  · exact s.governs_idle
  · split
    · exact State.governs_steady (s.issueColRead_steady _ _ _ _ _)
    all_goals exact s.governs_idle

theorem execColWriteIssued_governs (s : State) : s.Governs (execColWriteIssued s) := by
  unfold execColWriteIssued
  split
  · exact s.governs_idle
  · split
    · exact State.governs_steady (s.issueColWrite_steady _ _ _ _ _ _)
    all_goals exact s.governs_idle

theorem execRowCloseIssued_governs (s : State) : s.Governs (execRowCloseIssued s) := by
  unfold execRowCloseIssued
  split
  · exact s.governs_idle
  · split
    · exact State.governs_steady (s.issueRowClose_steady _ _ _)
    all_goals exact s.governs_idle

theorem execRevocationCloseIssued_governs (s : State) : s.Governs (execRevocationCloseIssued s) := by
  unfold execRevocationCloseIssued
  split
  · exact s.governs_idle
  · split
    · exact State.governs_steady (s.issueRevocation_steady _ _)
    all_goals exact s.governs_idle

/-! ### The issues of rank operations (R95, R107, R110, R119, R125, R126, R130, R131) -/

/-- Where a refresh is issued the rank is ACTIVE or STOPPING (R84, R97). -/
theorem State.Offers.refresh_state {s : State} {pullIn : Bool} (h : s.Offers (.refresh pullIn)) : s.rank.state ≠ .offline :=
  h.rank_state.1

theorem State.issueRefresh_steady (s : State) (pullIn : Bool) (state : s.rank.state ≠ .offline) : Steady s (s.issueRefresh pullIn) := by
  let d := s.drive .refresh (refreshRaises s.prof)
  have paid : Steady s (d.refreshPaid pullIn) := .of_same (by simp [d, State.refreshPaid])
  have counted : Steady (d.refreshPaid pullIn) (d.refreshPaid pullIn).countRefresh := by
    refine .ite ?_ (.of_same (by simp))
    let v : State := { d.refreshPaid pullIn with refresh := { (d.refreshPaid pullIn).refresh with count := 0 } }
    have reset : Steady (d.refreshPaid pullIn) v := .of_same (by simp [v])
    exact reset.trans (v.shortCalibrationDue_steady (by simpa [v, d, State.refreshPaid] using state))
  have done : Steady s (d.refreshDone pullIn) := by
    rw [State.refreshDone_eq]
    exact .ite ((paid.trans counted).trans (State.dropRefresh_steady _)) (paid.trans counted)
  exact done.recordOperation.settle

/-- A short calibration issued takes the calibration due and its purpose together (R87, R110). -/
theorem State.issueShortCalibration_steady (s : State) : Steady s s.issueShortCalibration := by
  let d := s.drive .shortCalibration (busRaises s.prof.tCS)
  let v : State := { d with calibration := { d.calibration with shortDue := false, busy := .short (d.time + d.prof.tCS) } }
  have served : Steady s (v.dropPurpose .calibrate) := by
    refine .of_drain (by simp [v, d]) fun inv => ?_
    obtain ⟨sound, asks⟩ := s.drainInv_iff.mp inv
    have was : v.drain = s.drain := by simp [v, d]
    have marked : v.DrainSound := sound.of_drain was fun b closed => by simpa [v, d] using closed
    obtain ⟨dropped, purposes⟩ := marked.dropPurpose .calibrate
    refine (State.drainInv_iff _).mpr ⟨dropped, ?_⟩
    rw [purposes, was]
    exact
      { offline := fun h => by rw [asks.offline (by simpa [v, d] using h)]; rfl
        sleep := by simpa [v, d, Purposes.drop] using asks.sleep
        calibrate := by simp [v, Purposes.drop]
        stop := by simpa [v, d, Purposes.drop] using asks.stop }
  exact served.recordOperation.settle

/-- A phase of bring-up that follows another, with the retained flag standing only where it may (R119, R120). -/
theorem State.Governed.nextPhase {s : State} (g : s.Governed) {path path' : BringUpPath} {phase next : BringUpPhase}
    (state : s.rank.state = .bringUp path phase)
    (kept : (RankState.bringUp path phase).mayBeRetained = true → (RankState.bringUp path' next).mayBeRetained = true) :
    (s.setRank (.bringUp path' next)).Governed :=
  g.setRank (by rw [state]; rfl) fun retained => kept <| by
    obtain ⟨-, -, -, may⟩ := g.rank
    rw [← state]
    exact may retained

theorem State.issueLongCalibration_governed {s : State} (g : s.Governed) {path : BringUpPath}
    (state : s.rank.state = .bringUp path (.longCal false)) : s.issueLongCalibration.Governed := by
  obtain ⟨holds, -, issued⟩ := s.issueLongCalibration_eq path state
  rw [issued]
  let v : State := { s.operating .longCalibration holds with
    calibration := { s.calibration with busy := .long (s.time + s.prof.tCL) } }
  have driven : Steady s v := .of_same (by simp [v, State.operating])
  have phase : v.rank.state = .bringUp path (.longCal false) := state
  exact (Steady.refl _).settle.governed ((driven.governed g).nextPhase phase (by cases path <;> nofun))

theorem State.issueModeSet_governed {s : State} (g : s.Governed) (w : ModeWord) {path : BringUpPath} {m : ModeStage}
    (state : s.rank.state = .bringUp path (.modeLoad m)) : (s.issueModeSet w).Governed := by
  obtain ⟨holds, -, issued⟩ := s.issueModeSet_eq w path _ state
  rw [issued]
  let v : State := s.operating (.modeSet w (s.prof.modeValue w)) holds
  have driven : Steady s v := .of_same (by simp [v, State.operating])
  have phase : v.rank.state = .bringUp path (.modeLoad m) := state
  exact (Steady.refl _).settle.governed ((driven.governed g).nextPhase phase (by cases path <;> nofun))

theorem execRefreshIssued_governs (s : State) : s.Governs (execRefreshIssued s) := by
  unfold execRefreshIssued
  split
  · rename_i pullIn granted
    obtain ⟨offers, -⟩ := State.granted_operation granted
    exact State.governs_steady (s.issueRefresh_steady pullIn offers.refresh_state)
  all_goals exact s.governs_idle

theorem execLongCalibrationIssued_governs (s : State) : s.Governs (execLongCalibrationIssued s) :=
  State.governs_ite fun granted => State.governs_next fun g => by
    obtain ⟨⟨path, state⟩, -⟩ := State.granted_operation granted
    exact State.issueLongCalibration_governed g state

theorem execModeSetIssued_governs (s : State) : s.Governs (execModeSetIssued s) := by
  unfold execModeSetIssued
  split
  · rename_i w granted
    obtain ⟨offers, -⟩ := State.granted_operation granted
    refine State.governs_next fun g => ?_
    cases w with
    | latency =>
      obtain ⟨path, state⟩ := offers
      exact State.issueModeSet_governed g .latency state
    | write =>
      obtain ⟨path, state⟩ := offers
      exact State.issueModeSet_governed g .write state
  all_goals exact s.governs_idle

theorem execPowerDownEntryIssued_governs (s : State) : s.Governs (execPowerDownEntryIssued s) :=
  State.governs_ite fun granted => State.governs_next fun g => by
    obtain ⟨⟨state, -⟩, -⟩ := State.granted_operation granted
    exact State.issuePowerDownEntry_governed g state

theorem execPowerDownExitIssued_governs (s : State) : s.Governs (execPowerDownExitIssued s) :=
  State.governs_ite fun granted => State.governs_next fun g => by
    obtain ⟨⟨r, state, -⟩, -⟩ := State.granted_operation granted
    exact State.issuePowerDownExit_governed g state

theorem execSelfRefreshEntryIssued_governs (s : State) : s.Governs (execSelfRefreshEntryIssued s) :=
  State.governs_ite fun granted => State.governs_next fun g =>
    State.issueSelfRefreshEntry_governed g (State.granted_operation granted).1

theorem execSelfRefreshExitIssued_governs (s : State) : s.Governs (execSelfRefreshExitIssued s) :=
  State.governs_ite fun granted => State.governs_next fun g =>
    State.issueSelfRefreshExit_governed g (State.granted_operation granted).1

/-! ### The rank's own times (R107, R119, R120, R124, R126, R131) -/

/-- In LONG_CAL and MODE_LOAD neither stop pending nor the retained flag is set, so the rank becomes ACTIVE with neither (R119, R120). -/
theorem State.Governed.activates {s : State} (g : s.Governed) {path : BringUpPath} {phase : BringUpPhase}
    (state : s.rank.state = .bringUp path phase) (kept : (RankState.bringUp path phase).mayBeRetained = false) :
    s.becomeActive.Governed :=
  State.becomeActive_governed g.drain (by rw [state]; nofun) (g.rank.not_pending (by rw [state]; rfl))
    (g.rank.not_retained (by rw [state]; exact kept))

theorem State.notBusy_steady (s : State) : Steady s s.notBusy := .of_same ⟨rfl, rfl, rfl, rfl, rfl, rfl, rfl, rfl, rfl⟩

theorem execLongCalBusyEnd_governs (s : State) : s.Governs (execLongCalBusyEnd s) := by
  have ended := s.notBusy_steady
  refine State.governs_ite fun _ => State.governs_next fun g => ?_
  split
  · rename_i phase
    refine (Steady.refl _).settle.governed ?_
    cases state : s.rank.state with
    | bringUp path phase' =>
      cases phase' with
      | longCal issued => exact (ended.governed g).activates (path := path) (phase := .longCal issued) state (by cases path <;> rfl)
      | _ => simp [RankState.inLongCal, state] at phase
    | _ => simp [RankState.inLongCal, state] at phase
  · exact ended.settle.governed g

theorem execModeLoadEnd_governs (s : State) : s.Governs (execModeLoadEnd s) := by
  refine State.governs_ite fun due => State.governs_next fun g => (Steady.refl _).settle.governed ?_
  unfold State.modeLoadDue at due
  split at due
  · rename_i path t state
    exact g.activates state (by cases path <;> rfl)
  · cases due

theorem execResetHoldEnd_governs (s : State) : s.Governs (execResetHoldEnd s) := by
  unfold execResetHoldEnd
  split
  · rename_i path t state
    exact State.governs_ite fun _ => State.governs_next fun g => g.nextPhase state (by cases path <;> nofun)
  · exact s.governs_idle

theorem execClockSettleEnd_governs (s : State) : s.Governs (execClockSettleEnd s) := by
  unfold execClockSettleEnd
  split
  · rename_i path t state
    refine State.governs_ite fun _ => State.governs_next fun g => g.nextPhase state ?_
    cases path
    · nofun
    · exact fun _ => rfl
  · exact s.governs_idle

theorem execExitWaitEnd_governs (s : State) : s.Governs (execExitWaitEnd s) := by
  unfold execExitWaitEnd
  split
  · rename_i path timed state
    refine State.governs_ite fun due => State.governs_next fun g => g.nextPhase state ?_
    cases timed with
    | none => simp [State.exitWaitDue, state] at due
    | some t => cases path <;> nofun
  · exact s.governs_idle

theorem execIdleTimerExpiry_governs (s : State) : s.Governs (execIdleTimerExpiry s) := by
  refine State.governs_ite fun due => State.governs_steady ⟨rfl, rfl, rfl, rfl, rfl, fun _ => .inl fun stopped => ?_, id⟩
  simp [State.idleDue, stopped] at due

theorem execResidencyEnd_governs (s : State) : s.Governs (execResidencyEnd s) := by
  unfold execResidencyEnd
  split
  · rename_i r state
    exact State.governs_ite fun _ => State.governs_steady (s.setRank_steady _ (by rw [state]; rfl) (by rw [state]; rfl))
  · exact s.governs_idle

theorem execWakeEnd_governs (s : State) : s.Governs (execWakeEnd s) := by
  refine State.governs_ite fun due => State.governs_next fun g => ?_
  unfold State.wakeDue at due
  split at due
  · exact State.endWake_governed g ‹_›
  · cases due

/-! ### The management port (R118, R121, R122, R162) -/

theorem State.setStatus_steady (s : State) (c : CommandStatus) : Steady s (s.setStatus c) := .of_same (by simp [State.setStatus])

theorem execStart_governs (s : State) : s.Governs (execStart s) := by
  unfold execStart
  split
  · exact State.governs_steady (s.setStatus_steady _)
  · split
    · exact State.governs_steady (s.setStatus_steady _)
    · exact State.governs_next fun g => State.takeStart_governed g (not_not.mp ‹_›)

/-- Stop made pending in a rank state in which it can be (R121, R122). -/
theorem State.Governed.pend {s : State} (g : s.Governed) (may : s.rank.state.mayHoldStop = true) :
    State.Governed { s with rank := { s.rank with stopPending := true } } := by
  obtain ⟨⟨timer, idle, -, retained⟩, drain⟩ := g
  exact ⟨⟨timer, idle, fun _ => may, retained⟩, drain⟩

theorem State.Governed.carryOutStop {s : State} (g : s.Governed) (state : s.rank.state = .active) : s.carryOutStop.Governed := by
  refine State.carryOutStop_governed g.drain ?_ (g.rank.not_retained (by rw [state]; rfl))
  rw [g.rank.timer_of_runs, state]
  rfl

theorem execStop_governs (s : State) : s.Governs (execStop s) := by
  have answered : Steady s (s.setStatus .ok) := s.setStatus_steady .ok
  have refused : s.Governs (.next (s.setStatus .notRunning)) := State.governs_steady (s.setStatus_steady _)
  have settled {v : State} (h : v.Governed) : v.settle.Governed := (Steady.refl v).settle.governed h
  have state : (s.setStatus .ok).rank.state = s.rank.state := rfl
  unfold execStop
  split
  · exact refused
  · cases now : s.rank.state with rw [now] at state
    | active => exact State.governs_next fun g => settled ((answered.governed g).carryOutStop state)
    | powerDown r =>
      refine State.governs_next fun g => ?_
      have pending := (answered.governed g).pend (by rw [state]; rfl)
      exact (Steady.refl _).wantExit.judgeUnanimity.settle.governed pending
    | sleep wanted => exact State.governs_next fun _ => settled (State.enterOffline_governed _ true)
    | waking t => exact State.governs_next fun g => settled ((answered.governed g).pend (by rw [state]; rfl))
    | bringUp path phase => exact State.governs_next fun _ => settled (State.enterOffline_governed _ _)
    | offline => exact refused
    | stopping => exact refused

theorem execCommit_governs (s : State) : s.Governs (execCommit s) := by
  unfold execCommit
  repeat' split
  all_goals exact State.governs_steady (.of_same ⟨rfl, rfl, rfl, rfl, rfl, rfl, rfl, rfl, rfl⟩)

theorem execFaultPop_governs (s : State) : s.Governs (execFaultPop s) := by
  unfold execFaultPop
  split <;> exact State.governs_steady (.of_same ⟨rfl, rfl, rfl, rfl, rfl, rfl, rfl, rfl, rfl⟩)

theorem execRegisterCapture_governs (address : BitVec 16) (s : State) : s.Governs (execRegisterCapture address s) := by
  refine State.governs_steady ?_
  unfold State.captured
  split <;> exact .of_same ⟨rfl, rfl, rfl, rfl, rfl, rfl, rfl, rfl, rfl⟩

/-! ### Every command -/

theorem exec_governs (c : Instr) (s : State) : s.Governs (exec c s) := by
  have steady {t : State} (h : Steady s t) : s.Governs (.next t) := State.governs_steady h
  have due {t : State} {P : Prop} [Decidable P] (h : Steady s t) : s.Governs (if P then .next t else .next s) :=
    State.governs_ite fun _ => steady h
  have same {t : State} (h : t.rank = s.rank ∧ t.banks = s.banks ∧ t.refresh.timer = s.refresh.timer ∧
      t.calibration.shortDue = s.calibration.shortDue ∧ t.drain = s.drain) : Steady s t := by
    obtain ⟨rank, banks, timer, short, drain⟩ := h
    exact .of_same ⟨by rw [rank], banks, by rw [rank], by rw [rank], by rw [rank], by rw [rank], by rw [timer], short, drain⟩
  cases c with
  | powerOnReset lanes thot => exact execPowerOnReset_governs lanes thot s
  | softReset => exact execSoftReset_governs s
  | linkUp p => exact due (same (by simp))
  | linkDown p => exact execLinkDown_governs p s
  | thotAsserted => exact steady (s.takeThot_steady true).settle
  | thotDeasserted => exact steady (s.takeThot_steady false).settle
  | frameCrcDiscard p bytes => exact due (same (by simp))
  | frameOutOfSequence p seq => exact due (same (by simp))
  | join p h revision => exact steady (s.receive_steady p h _ _ fun u => u.takeJoin_steady p h.tag revision)
  | leave p h => exact steady (s.receive_steady p h _ _ fun u => u.takeLeave_steady p h.tag)
  | leaseExtend p h bank => exact steady (s.receive_steady p h _ _ fun u => u.takeExtend_steady p h.tag bank)
  | cancel p h target => exact steady (s.receive_steady p h _ _ fun u => u.takeCancel_steady p h.tag target)
  | sleepVote p h => exact steady (s.receive_steady p h _ _ fun u => u.takeSleepVote_steady p h.tag)
  | wake p h => exact steady (s.receive_steady p h _ _ fun u => u.takeWake_steady p h.tag)
  | tempReport p h t => exact steady (s.receive_steady p h _ _ fun u => u.takeReport_steady p h.tag t)
  | rowOpen p h bank row => exact steady (s.queued_steady p h bank _)
  | colRead p h bank row column flags => exact steady (s.queued_steady p h bank _)
  | colWrite p h bank row column flags data => exact steady (s.queued_steady p h bank _)
  | rowClose p h bank => exact steady (s.queued_steady p h bank _)
  | handedToLink p => exact execHandedToLink_governs p s
  | readyToLeave p => exact execReadyToLeave_governs p s
  | leaveComplete p => exact execLeaveComplete_governs p s
  | holdMet id => exact due (same (by simp)).settle
  | windowEntryLeaves => exact due (same (by simp)).settle
  | leaseWarning b => exact execLeaseWarning_governs b s
  | leaseExpiry b => exact execLeaseExpiry_governs b s
  | graceEnd => exact execGraceEnd_governs s
  | intervalTimerExpiry => exact execIntervalTimerExpiry_governs s
  | entryAged p tag => exact execEntryAged_governs p tag s
  | writeBurstStart => exact execWriteBurstStart_governs s
  | readBurstStart => exact execReadBurstStart_governs s
  | writeDataEnd => exact execWriteDataEnd_governs s
  | readDataArrival data => exact execReadDataArrival_governs data s
  | rowOpenIssued => exact execRowOpenIssued_governs s
  | colReadIssued => exact execColReadIssued_governs s
  | colWriteIssued => exact execColWriteIssued_governs s
  | rowCloseIssued => exact execRowCloseIssued_governs s
  | revocationCloseIssued => exact execRevocationCloseIssued_governs s
  | refreshIssued => exact execRefreshIssued_governs s
  | shortCalibrationIssued => exact due s.issueShortCalibration_steady
  | longCalibrationIssued => exact execLongCalibrationIssued_governs s
  | modeSetIssued => exact execModeSetIssued_governs s
  | powerDownEntryIssued => exact execPowerDownEntryIssued_governs s
  | powerDownExitIssued => exact execPowerDownExitIssued_governs s
  | selfRefreshEntryIssued => exact execSelfRefreshEntryIssued_governs s
  | selfRefreshExitIssued => exact execSelfRefreshExitIssued_governs s
  | longCalBusyEnd => exact execLongCalBusyEnd_governs s
  | shortCalBusyEnd => exact due s.notBusy_steady.settle
  | lockEnd => exact due (same (by simp)).settle
  | resetHoldEnd => exact execResetHoldEnd_governs s
  | clockSettleEnd => exact execClockSettleEnd_governs s
  | exitWaitEnd => exact execExitWaitEnd_governs s
  | modeLoadEnd => exact execModeLoadEnd_governs s
  | idleTimerExpiry => exact execIdleTimerExpiry_governs s
  | residencyEnd => exact execResidencyEnd_governs s
  | wakeEnd => exact execWakeEnd_governs s
  | start => exact execStart_governs s
  | stop => exact execStop_governs s
  | commit => exact execCommit_governs s
  | faultPop => exact execFaultPop_governs s
  | mgmtErrorClear value => exact due (same (by simp))
  | alertMaskWrite value => exact steady (same (by simp))
  | stagedProfileWrite field byte value => exact steady (same (by simp))
  | mgmtWriteBad address value => exact due (same (by simp))
  | registerCapture address => exact execRegisterCapture_governs address s
  | badKindFrame p h kind length => exact execBadKindFrame_governs p h kind length s

/-- A step on a command, a step of the block's own and a ck that passes keep both invariants (R1, assumption 7). -/
theorem step_governs (s : State) : s.Governs (step s) := by
  intro g t stepped
  unfold step at stepped
  split at stepped
  · rename_i c rest _
    exact exec_governs c { s with pending := rest } ⟨g.rank, g.drain⟩ t stepped
  · unfold idleStep at stepped
    split at stepped
    · exact exec_governs _ s.drawn ⟨g.rank, g.drain⟩ t stepped
    · cases stepped
      exact ⟨g.rank, g.drain⟩

end Sys2Proof.Machine

namespace Sys2Proof.Proofs

open Sys2Proof Sys2Proof.Machine

/-- Settles O12: both invariants together (`State.Governed`) are kept by every command (`exec_governs`), since it either leaves the
rank in its state (`Steady`) or takes it to one of the states of Table 8-1. -/
theorem rankAndDrainInvariantsKept : Obligations.RankAndDrainInvariantsKept := by
  intro s t rank drain stepped
  obtain ⟨rank', drain'⟩ := step_governs s ⟨rank, drain⟩ t stepped
  exact ⟨rank', drain'⟩

end Sys2Proof.Proofs
end

section
/-! PROOFS. Grace end at its deadline (R79, R80): O39, and what it keeps of the Fault Unit. -/

namespace Sys2Proof.Machine

/-! ### What happens to the Fault Unit on the way (R17, R91, R92, R165) -/

/-- From `s` to `t` fault records are appended at most, and neither a refresh overrun nor an urgent refresh is counted. -/
structure Logs (s t : State) : Prop where
  list : s.fault.list <+: t.fault.list
  missed : t.fault.rank.missed = s.fault.rank.missed
  urgents : t.fault.rank.urgents = s.fault.rank.urgents

theorem Logs.of_fault {s t : State} (h : t.fault = s.fault) : Logs s t := by
  refine ⟨?_, ?_, ?_⟩ <;> rw [h]

theorem Logs.trans {s t u : State} (h : Logs s t) (g : Logs t u) : Logs s u :=
  ⟨h.list.trans g.list, g.missed.trans h.missed, g.urgents.trans h.urgents⟩

theorem Logs.foldl {ι : Type} {f : State → ι → State} (h : ∀ u i, Logs u (f u i)) (l : List ι) (s : State) : Logs s (l.foldl f s) := by
  induction l generalizing s with
  | nil => exact .of_fault rfl
  | cons i l ih => exact (h s i).trans (ih _)

/-- A record handed over while the list is not full stands in it, at its end (R165). -/
theorem FaultUnit.hand_list (f : FaultUnit) (r : FaultRecord) : (f.hand r).list = if f.list.length < 16 then f.list ++ [r] else f.list := by
  rw [FaultUnit.hand, apply_ite FaultUnit.list]
  rfl

theorem FaultUnit.hand_rank (f : FaultUnit) (r : FaultRecord) : (f.hand r).rank = f.rank := by
  rw [FaultUnit.hand, apply_ite FaultUnit.rank]
  exact ite_self _

theorem State.handFault_logs (s : State) (k : FaultKind) (p : Option Port) (b : Option Bank) (d : FaultDetail) :
    Logs s (s.handFault k p b d) := by
  refine ⟨?_, ?_, ?_⟩
  · rw [State.handFault, FaultUnit.hand_list]
    split
    · exact List.prefix_append _ _
    · exact List.prefix_rfl
  · rw [State.handFault, FaultUnit.hand_rank]
  · rw [State.handFault, FaultUnit.hand_rank]

/-- A record that is handed over stands in the list if the list is not full at the end (R165, R166). -/
theorem State.handFault_mem {s t : State} {k : FaultKind} {p : Option Port} {b : Option Bank} {d : FaultDetail}
    (h : Logs (s.handFault k p b d) t) (room : t.fault.list.length < 16) : ⟨k, p, b, d, s.time48⟩ ∈ t.fault.list := by
  have before : s.fault.list.length < 16 :=
    ((s.handFault_logs k p b d).list.length_le.trans h.list.length_le).trans_lt room
  refine h.list.subset ?_
  rw [State.handFault, FaultUnit.hand_list, if_pos before]
  simp

/-- A revocation counts, and records nothing by itself (R17). -/
theorem State.revoke_logs (s : State) (b : Bank) (reason : RevokeReason) : Logs s (s.revoke b reason) := by
  cases held : (s.banks.look b).state with
  | closed => exact .of_fault (by simp [State.revoke, held])
  | opened l =>
    rw [s.revoke_opened b reason l held]
    exact ⟨List.prefix_rfl, rfl, rfl⟩
  | revoking r =>
    refine .of_fault ?_
    simp only [State.revoke, held]
    split <;> simp

theorem Evaluated.logs {b : Bank} {s t : State} (h : Evaluated b s t) : Logs s t := by
  refine ⟨?_, ?_, ?_⟩ <;> rw [h.fault]

/-! ### Grace end, bank by bank (R79) -/

/-- Grace end of an OPEN bank: revoked, recorded, its entries evaluated (R79). -/
theorem State.graceRevoke_opened {s : State} {reason : RevokeReason} {b : Bank} {l : Lease}
    (held : (s.banks.look b).state = .opened l) : s.graceRevoke reason b =
      ((s.revoke b reason).handFault .drainRevoke (some l.owner.port) (some b) (.reason reason)).reevaluate b := by
  simp only [State.graceRevoke, held]

/-- Grace end passes over a bank that is not OPEN (R79). -/
theorem State.graceRevoke_shut {s : State} {reason : RevokeReason} {b : Bank} (shut : (s.banks.look b).state.isOpen = false) :
    s.graceRevoke reason b = s := by
  unfold State.graceRevoke
  split
  · rfl
  · rename_i l held
    rw [held] at shut
    cases shut
  · rfl

theorem State.graceRevoke_logs (s : State) (reason : RevokeReason) (b : Bank) : Logs s (s.graceRevoke reason b) := by
  cases held : (s.banks.look b).state with
  | opened l =>
    rw [State.graceRevoke_opened held]
    exact ((s.revoke_logs b reason).trans (State.handFault_logs _ _ _ _ _)).trans (State.reevaluate_evaluated _ b).logs
  | closed => exact .of_fault (by rw [State.graceRevoke_shut (by rw [held]; rfl)])
  | revoking r => exact .of_fault (by rw [State.graceRevoke_shut (by rw [held]; rfl)])

/-- Grace end of one bank leaves every other bank. -/
theorem State.graceRevoke_others (s : State) (reason : RevokeReason) {b x : Bank} (other : x ≠ b) :
    (s.graceRevoke reason b).banks.look x = s.banks.look x := by
  cases held : (s.banks.look b).state with
  | opened l =>
    rw [State.graceRevoke_opened held, (State.reevaluate_evaluated _ b).others x other]
    simp [s.revoke_opened b reason l held, State.handFault, Ne.symm other]
  | closed => rw [State.graceRevoke_shut (by rw [held]; rfl)]
  | revoking r => rw [State.graceRevoke_shut (by rw [held]; rfl)]

/-- Grace end leaves every bank that is not OPEN. -/
theorem State.graceRevokes_shut (reason : RevokeReason) (l : List Bank) {s : State} {x : Bank}
    (shut : (s.banks.look x).state.isOpen = false) : (l.foldl (State.graceRevoke reason) s).banks.look x = s.banks.look x := by
  have one (u : State) (b : Bank) (same : u.banks.look x = s.banks.look x) : (u.graceRevoke reason b).banks.look x = s.banks.look x := by
    by_cases at_ : x = b
    · subst at_
      rw [State.graceRevoke_shut (by rw [same]; exact shut), same]
    · rw [u.graceRevoke_others reason at_, same]
  exact foldl_holds (fun u : State => u.banks.look x = s.banks.look x) _ one l s rfl

/-- Grace end over banks of which `x` is none leaves bank `x`. -/
theorem State.graceRevokes_others (reason : RevokeReason) (l : List Bank) (s : State) {x : Bank} (other : x ∉ l) :
    (l.foldl (State.graceRevoke reason) s).banks.look x = s.banks.look x := by
  induction l generalizing s with
  | nil => rfl
  | cons b l ih =>
    rw [List.mem_cons, not_or] at other
    obtain ⟨first, rest⟩ := other
    rw [List.foldl_cons, ih _ rest, s.graceRevoke_others reason first]

/-- Each OPEN bank's revocation is recorded at grace end, if the list is not full at the end (R79, R165). -/
theorem State.graceRevokes_record (reason : RevokeReason) {l : List Bank} {s : State} {b : Bank} {le : Lease} (mem : b ∈ l)
    (held : (s.banks.look b).state = .opened le) (room : (l.foldl (State.graceRevoke reason) s).fault.list.length < 16) :
    ⟨.drainRevoke, some le.owner.port, some b, .reason reason, s.time48⟩ ∈ (l.foldl (State.graceRevoke reason) s).fault.list := by
  obtain ⟨before, after, rfl, fresh⟩ := List.eq_append_cons_of_mem mem
  rw [List.foldl_append, List.foldl_cons] at room ⊢
  have time : (before.foldl (State.graceRevoke reason) s).time48 = s.time48 := by
    rw [State.time48, foldl_keeps State.time _ (fun u b => by simp) before s]
    rfl
  have kept := State.graceRevokes_others reason before s fresh
  revert room time kept
  generalize before.foldl (State.graceRevoke reason) s = v
  intro room time kept
  rw [State.graceRevoke_opened (by rw [kept]; exact held)] at room ⊢
  rw [← time]
  have revoked : (v.revoke b reason).time48 = v.time48 := by simp [State.time48]
  rw [← revoked]
  refine State.handFault_mem (.trans (State.reevaluate_evaluated _ b).logs ?_) room
  exact .foldl (fun u x => u.graceRevoke_logs reason x) after _

/-- Grace end by its revocations. -/
theorem State.endGrace_fault (s : State) : s.endGrace.fault = (allBanks.foldl (State.graceRevoke s.drain.reason) s).fault := by
  simp [State.endGrace]

theorem State.endGrace_logs (s : State) : Logs s s.endGrace :=
  (Logs.foldl (fun u b => u.graceRevoke_logs s.drain.reason b) allBanks s).trans (.of_fault s.endGrace_fault)

theorem State.endGrace_shut {s : State} {b : Bank} (shut : (s.banks.look b).state.isOpen = false) :
    s.endGrace.banks.look b = s.banks.look b := by
  have same : s.endGrace.banks = (allBanks.foldl (State.graceRevoke s.drain.reason) s).banks := by simp [State.endGrace]
  rw [same, State.graceRevokes_shut _ allBanks shut]

theorem State.endGrace_record {s : State} {b : Bank} {l : Lease} (held : (s.banks.look b).state = .opened l)
    (room : s.endGrace.fault.list.length < 16) :
    ⟨.drainRevoke, some l.owner.port, some b, .reason s.drain.reason, s.time48⟩ ∈ s.endGrace.fault.list := by
  rw [State.endGrace_fault] at room ⊢
  exact State.graceRevokes_record s.drain.reason (mem_allBanks b) held room

/-- Grace end leaves everything but links, queues, banks, drain, Data Mover and Fault Unit. -/
theorem State.endGrace_sameBut (s : State) : SameBut [.links, .queues, .banks, .drain, .mover, .fault] s s.endGrace := by
  intro x hx
  cases x <;> simp [Part.Agree] at hx ⊢

/-- GRACE_END at the deadline, with a master awake (R79). -/
theorem exec_graceEnd {s : State} {d : Nat} (phase : s.drain.phase = .grace d) (due : d ≤ s.time) (awake : s.awakeMaster) :
    exec .graceEnd s = .next s.endGrace.settle := by
  have reached : s.graceDue = true := by simp [State.graceDue, phase, State.reached, due]
  simp only [exec, execGraceEnd, reached, if_true]
  rw [State.judgeRemoval_awake _ s (awake.of_rank (by simp))]

end Sys2Proof.Machine

namespace Sys2Proof.Proofs

open Sys2Proof Sys2Proof.Machine

/-- Settles O39: what stands after the event is `State.endGrace` and an assessment, and grace end goes bank by bank. -/
theorem graceEndRevokesOpenBanks : Obligations.GraceEndRevokesOpenBanks := by
  intro s d phase due awake
  have reason : s.drain.reason = if s.drain.purposes.stop then .stop else .drain := rfl
  have drain := s.endGrace_drain
  refine ⟨_, exec_graceEnd phase due awake, fun b l held => ?_, fun b shut => ?_, fun closed => ?_, fun ⟨b, other⟩ => ?_,
    fun b l held room => ?_, ?_⟩
  · simpa [reason] using s.endGrace_opened b l held
  · simpa using State.endGrace_shut shut
  · simpa [s.allClosed_iff.mpr closed] using drain
  · have some : ¬s.allClosed = true := fun all => other (s.allClosed_iff.mp all b)
    simpa [some] using drain
  · simp only [State.settle_frame] at room ⊢
    simpa only [reason] using State.endGrace_record held room
  · exact (s.endGrace_sameBut.mono (by decide)).trans (s.endGrace.settle_sameBut.mono (by decide))

end Sys2Proof.Proofs
end

section
/-! PROOFS. The expiry of the interval timer (R91 to R93), and the drain that it starts (R75, R76, R79, R80): O40. -/

namespace Sys2Proof.Machine

/-! ### What the addition of a purpose and a judgement of unanimity do to the Fault Unit (R79, R128) -/

theorem State.beginDrain_logs (s : State) (u : Purpose) (urgent : Bool) : Logs s (s.beginDrain u urgent) := by
  have granted : Logs s (s.grantsGrace u urgent) := .of_fault rfl
  rw [s.beginDrain_eq]
  split
  · exact granted.trans (State.endGrace_logs _)
  · exact granted.trans (.of_fault (by simp))

theorem State.addPurpose_logs (s : State) (u : Purpose) (urgent : Bool) : Logs s (s.addPurpose u urgent) := by
  unfold State.addPurpose
  split
  · exact (s.beginDrain_logs u urgent).trans (.of_fault (by simp [State.startDrain]))
  · rw [id]
    split
    · exact (Logs.of_fault (by simp)).trans (State.endGrace_logs _)
    · exact .of_fault (by simp)
  · exact .of_fault (by simp)
  · exact .of_fault (by simp)

theorem State.judgeUnanimity_logs (s : State) : Logs s s.judgeUnanimity := by
  have marked : Logs s (s.setBegun true) := .of_fault rfl
  obtain e | ⟨-, -, e⟩ | ⟨-, -, -, e⟩ | ⟨-, -, -, e⟩ := s.judgeUnanimity_cases id <;> rw [e]
  · exact .of_fault rfl
  · exact .of_fault (by simp)
  · exact (marked.trans (State.addPurpose_logs _ .sleep false)).trans (.of_fault (by simp))
  · exact (marked.trans (State.beginDrain_logs _ .sleep false)).trans (.of_fault (by simp))

theorem State.judgeRemoval_logs (s old : State) : Logs s (s.judgeRemoval old) := by
  unfold State.judgeRemoval
  split
  · exact .of_fault rfl
  · exact s.judgeUnanimity_logs

/-! ### A drain that serves REFRESH (R78, R83) -/

/-- The drain is active and serves REFRESH, marked urgent or not. -/
structure State.Refreshing (s : State) (urgent : Bool) : Prop where
  active : s.drain.phase ≠ .none
  refresh : s.drain.purposes.refresh = true
  urgent : s.drain.urgent = urgent

/-- REFRESH added, urgent where this addition or an earlier one marks it (R78). -/
theorem State.addPurpose_refreshing (s : State) (marked : Bool) :
    ∃ urgent, (s.addPurpose .refresh marked).Refreshing urgent ∧ (marked = true → urgent = true) := by
  have has := s.addPurpose_has .refresh marked
  by_cases phase : s.drain.phase = .none
  · have drain : (s.addPurpose .refresh marked).drain = (s.beginDrain .refresh marked).drain := by
      rw [s.addPurpose_others, if_pos phase]
      simp
    rw [s.beginDrain_drain] at drain
    refine ⟨marked, ⟨?_, has, by rw [drain]⟩, id⟩
    rw [drain]
    dsimp only
    repeat' split
    all_goals nofun
  · obtain ⟨-, urgent, active, -⟩ := s.addPurpose_drain .refresh marked phase
    exact ⟨_, ⟨active, has, urgent⟩, fun is => by simp [is]⟩

/-- SLEEP that comes or goes leaves REFRESH and its mark (R78, R83, R128). -/
theorem State.Refreshing.judgeUnanimity {s : State} {urgent : Bool} (h : s.Refreshing urgent) : s.judgeUnanimity.Refreshing urgent := by
  obtain ⟨active, refresh, marked⟩ := h
  obtain e | ⟨-, -, e⟩ | ⟨-, -, -, e⟩ | ⟨-, -, idle, e⟩ := s.judgeUnanimity_cases id <;> rw [e]
  · exact ⟨active, refresh, marked⟩
  · have stays : (s.drain.purposes.drop .sleep).isEmpty = false := by simp [Purposes.drop, Purposes.isEmpty, refresh]
    have drain : (s.dropPurpose .sleep).drain = { s.drain with purposes := s.drain.purposes.drop .sleep } := by
      change s.drain.without (s.drain.purposes.drop .sleep) = _
      rw [Drain.without, if_neg (by rw [stays]; nofun)]
      simp [Purposes.drop, refresh]
    have same : ((s.dropPurpose .sleep).setBegun false).judgeIdle.drain = (s.dropPurpose .sleep).drain := by simp
    rw [← same] at drain
    exact ⟨by rw [id, drain]; exact active, by rw [id, drain]; exact refresh, by rw [id, drain]; exact marked⟩
  · obtain ⟨purposes, urgent', active', -⟩ := (s.setBegun true).addPurpose_drain .sleep false active
    have same : ((s.setBegun true).addPurpose .sleep false).wantExit.judgeIdle.drain = ((s.setBegun true).addPurpose .sleep false).drain :=
      by simp
    rw [← same] at purposes urgent' active'
    exact ⟨active', by rw [id, purposes]; exact refresh, by rw [id, urgent', Bool.or_false]; exact marked⟩
  · exact absurd idle active

theorem State.Refreshing.judgeRemoval {s : State} {urgent : Bool} (h : s.Refreshing urgent) (old : State) :
    (s.judgeRemoval old).Refreshing urgent := by
  unfold State.judgeRemoval
  split
  · exact h
  · exact h.judgeUnanimity

/-! ### Exit wanted (R126) -/

/-- Judging the idle timer leaves the rank in its state (R124). -/
theorem State.judgeIdle_state (s : State) : s.judgeIdle.rank.state = s.rank.state := by
  obtain ⟨i, judged⟩ := s.judgeIdle_withIdle
  rw [judged]
  rfl

theorem State.wantExit_powerDown {s : State} {r : PowerDown} (state : s.rank.state = .powerDown r) :
    s.wantExit.rank.state = .powerDown { r with exitWanted := true } := by
  simp [State.wantExit, state, State.setRank]

/-- An exit wanted stays so when unanimity is judged (R126, R128). -/
theorem State.judgeUnanimity_exitWanted {s : State} {r : PowerDown} (state : s.rank.state = .powerDown { r with exitWanted := true }) :
    s.judgeUnanimity.rank.state = .powerDown { r with exitWanted := true } := by
  have again (v : State) (rank : v.rank.state = s.rank.state) :
      v.wantExit.judgeIdle.rank.state = .powerDown { r with exitWanted := true } := by
    rw [State.judgeIdle_state]
    exact (State.wantExit_powerDown (rank.trans state)).trans rfl
  obtain e | ⟨-, -, e⟩ | ⟨-, -, -, e⟩ | ⟨-, -, -, e⟩ := s.judgeUnanimity_cases id <;> rw [e]
  · exact state
  · rw [id, State.judgeIdle_state]
    exact state
  · exact again ((s.setBegun true).addPurpose .sleep false) (by simp [State.setBegun])
  · simp only [id, State.sendDrain_frame]
    exact again ((s.setBegun true).beginDrain .sleep false) (by simp [State.setBegun])

theorem State.judgeRemoval_exitWanted {s : State} {r : PowerDown} (old : State)
    (state : s.rank.state = .powerDown { r with exitWanted := true }) :
    (s.judgeRemoval old).rank.state = .powerDown { r with exitWanted := true } := by
  unfold State.judgeRemoval
  split
  · exact state
  · exact State.judgeUnanimity_exitWanted state

/-- With the queues as they were, no entry has left one (R128). -/
theorem State.judgeRemoval_of_queues {s old : State} (queues : s.queues = old.queues) : s.judgeRemoval old = s := by
  rw [State.judgeRemoval, if_pos]
  simp only [State.queuedTotal, queues]

/-! ### The expiry of the interval timer (R91) -/

/-- The refresh owed or missed, the timer running again, and the expiry counted where it marks REFRESH urgent (R91 to R93). -/
def State.owing (s : State) (marked : Bool) : State :=
  let v : State := { s.owe with refresh := { s.owe.refresh with timer := some (s.owe.time + s.owe.reload) } }
  if marked then v.modRankCounters fun c => { c with urgents := c.urgents + 1 } else v

/-- REFRESH asked for where the balance calls for it, with the exit it wants (R92, R93, R126). -/
def State.asking (s : State) (marked : Bool) : State :=
  let v := if (s.prof.lt : Int) ≤ s.refresh.balance ∨ marked = true then s.addPurpose .refresh marked else s
  if (s.prof.lt : Int) ≤ s.refresh.balance then v.wantExit else v

/-- This expiry takes the balance to PPM (R93). -/
def State.marks (s : State) : Bool := decide (s.refresh.balance + 1 = s.prof.ppm)

theorem State.owe_frame (s : State) :
    s.owe.time = s.time ∧ s.owe.refresh.thermal = s.refresh.thermal := by
  unfold State.owe
  split <;> simp

theorem State.askRefresh_eq (s : State) (marked : Bool) : s.askRefresh marked =
    State.asking (if marked then s.modRankCounters fun c => { c with urgents := c.urgents + 1 } else s) marked := by
  simp only [State.askRefresh, State.asking, decide_eq_true_eq, Bool.or_eq_true]

theorem State.expireInterval_eq (s : State) :
    s.expireInterval = (((s.owing s.marks).asking s.marks).judgeRemoval s).settle := by
  rw [State.expireInterval, State.askRefresh_eq]
  rfl

/-- INTERVAL_TIMER_EXPIRY of a timer that has reached its time (R91). -/
theorem exec_intervalTimerExpiry {s : State} {d : Nat} (timer : s.refresh.timer = some d) (due : d ≤ s.time) :
    exec .intervalTimerExpiry s = .next (((s.owing s.marks).asking s.marks).judgeRemoval s).settle := by
  have reached : s.intervalDue = true := by simp [State.intervalDue, timer, State.reached, due]
  simp only [exec, execIntervalTimerExpiry, reached, if_true, s.expireInterval_eq]

/-! ### The refresh owed -/

/-- Owing leaves everything but the Refresh Unit and the Fault Unit (R91). -/
theorem State.owing_sameBut (s : State) (marked : Bool) : SameBut [.refresh, .fault] s (s.owing marked) := by
  intro x hx
  simp only [State.owing, State.owe]
  cases x <;> simp only [Part.Agree] at hx ⊢ <;> repeat' split
  all_goals simp at hx ⊢

theorem State.reload_eq (s : State) : s.reload = if s.refresh.thermal = .hot then s.prof.tRFI / 2 else s.prof.tRFI := by
  unfold State.reload
  cases s.refresh.thermal <;> rfl

/-- The Refresh Unit after an expiry: the balance one up where that is below PPM, the timer running again (R90, R91). -/
theorem State.owing_refresh (s : State) (marked : Bool) : (s.owing marked).refresh = { s.refresh with
    balance := if s.refresh.balance < s.prof.ppm then s.refresh.balance + 1 else s.refresh.balance
    timer := some (s.time + if s.refresh.thermal = .hot then s.prof.tRFI / 2 else s.prof.tRFI) } := by
  obtain ⟨time, thermal⟩ := s.owe_frame
  have reload : s.owe.reload = s.reload := by simp [State.reload_eq, State.prof, thermal]
  rw [← s.reload_eq, ← reload, ← time]
  simp only [State.owing, State.owe, apply_ite State.refresh, State.modRankCounters_frame, ite_self]
  split <;> simp

theorem State.owing_urgents (s : State) (marked : Bool) :
    (s.owing marked).fault.rank.urgents = s.fault.rank.urgents + if marked then 1 else 0 := by
  have owed : s.owe.fault.rank.urgents = s.fault.rank.urgents := by
    unfold State.owe
    split
    · rfl
    · exact (State.handFault_logs _ _ _ _ _).urgents
  cases marked
  · simpa [State.owing] using owed
  · simpa [State.owing, State.modRankCounters] using owed

/-- A refresh owed counts nothing missed (R91). -/
theorem State.owing_owed {s : State} (room : s.refresh.balance < s.prof.ppm) (marked : Bool) :
    (s.owing marked).fault.rank.missed = s.fault.rank.missed := by
  have owed : s.owe.fault = s.fault := by rw [State.owe, if_pos room]
  cases marked <;> simp [State.owing, State.modRankCounters, owed]

/-- A refresh missed is counted and recorded with the count (R91). -/
theorem State.owing_missed {s : State} (full : (s.prof.ppm : Int) ≤ s.refresh.balance) (marked : Bool) :
    (s.owing marked).fault.rank.missed = s.fault.rank.missed + 1 ∧
      (s.fault.list.length < 16 → ⟨.refreshOverrun, none, none, .missed (s.fault.rank.missed + 1), s.time48⟩ ∈
        (s.owing marked).fault.list) := by
  let v := s.modRankCounters fun c => { c with missed := c.missed + 1 }
  have owed : s.owe = v.handFault .refreshOverrun none none (.missed v.fault.rank.missed) := by
    rw [State.owe, if_neg (not_lt.mpr full)]
  have kept : (s.owing marked).fault.rank.missed = s.owe.fault.rank.missed ∧ (s.owing marked).fault.list = s.owe.fault.list := by
    cases marked <;> simp [State.owing, State.modRankCounters]
  obtain ⟨missed, list⟩ := kept
  rw [missed, list, owed]
  refine ⟨(State.handFault_logs _ _ _ _ _).missed, fun room => ?_⟩
  have before : v.fault.list.length < 16 := room
  rw [State.handFault, FaultUnit.hand_list, if_pos before]
  exact List.mem_append_right _ (List.mem_singleton.mpr rfl)

/-! ### REFRESH asked for -/

theorem State.asking_wanted {s : State} {marked : Bool} (h : (s.prof.lt : Int) ≤ s.refresh.balance) :
    s.asking marked = (s.addPurpose .refresh marked).wantExit := by
  simp only [State.asking, h, true_or, if_true]

theorem State.asking_marked {s : State} {marked : Bool} (h : ¬(s.prof.lt : Int) ≤ s.refresh.balance) (is : marked = true) :
    s.asking marked = s.addPurpose .refresh marked := by
  simp only [State.asking, h, is, or_true, if_true, if_false]

theorem State.asking_quiet {s : State} {marked : Bool} (h : ¬(s.prof.lt : Int) ≤ s.refresh.balance) (not : ¬marked = true) :
    s.asking marked = s := by
  simp [State.asking, h, not]

/-- What is asked for is an addition of REFRESH, and beside that the rank's state alone can change (R92, R93, R126). -/
theorem State.asking_sameBut {s : State} {marked : Bool} (asked : (s.prof.lt : Int) ≤ s.refresh.balance ∨ marked = true) :
    SameBut [.rank] (s.addPurpose .refresh marked) (s.asking marked) := by
  by_cases wanted : (s.prof.lt : Int) ≤ s.refresh.balance
  · rw [State.asking_wanted wanted]
    intro x hx
    cases x <;> simp [Part.Agree] at hx ⊢
  · rw [State.asking_marked wanted (asked.resolve_left wanted)]
    exact .refl _ _

theorem State.addPurpose_sameBut (s : State) (u : Purpose) (urgent : Bool) :
    SameBut [.links, .queues, .banks, .drain, .mover, .fault] s (s.addPurpose u urgent) := by
  intro x hx
  cases x <;> simp [Part.Agree] at hx ⊢

theorem State.judgeRemoval_sameBut (s old : State) :
    SameBut [.links, .queues, .banks, .drain, .mover, .rank, .fault] s (s.judgeRemoval old) := by
  intro x hx
  cases x <;> simp [Part.Agree] at hx ⊢

theorem State.asking_rest (s : State) (marked : Bool) :
    SameBut [.links, .queues, .banks, .drain, .mover, .rank, .fault] s (s.asking marked) ∧ Logs s (s.asking marked) := by
  by_cases asked : (s.prof.lt : Int) ≤ s.refresh.balance ∨ marked = true
  · have same := State.asking_sameBut asked
    have fault : (s.asking marked).fault = (s.addPurpose .refresh marked).fault := same .fault (by decide)
    exact ⟨((s.addPurpose_sameBut .refresh marked).mono (by decide)).trans (same.mono (by decide)),
      (s.addPurpose_logs .refresh marked).trans (.of_fault fault)⟩
  · obtain ⟨unwanted, unmarked⟩ := not_or.mp asked
    rw [State.asking_quiet unwanted unmarked]
    exact ⟨.refl _ _, .of_fault rfl⟩

theorem State.asking_refreshing {s : State} {marked : Bool} (asked : (s.prof.lt : Int) ≤ s.refresh.balance ∨ marked = true) :
    ∃ urgent, (s.asking marked).Refreshing urgent ∧ (marked = true → urgent = true) := by
  have drain : (s.asking marked).drain = (s.addPurpose .refresh marked).drain := State.asking_sameBut asked .drain (by decide)
  obtain ⟨urgent, ⟨active, refresh, is⟩, marks⟩ := s.addPurpose_refreshing marked
  exact ⟨urgent, ⟨drain ▸ active, drain ▸ refresh, drain ▸ is⟩, marks⟩

/-- A refresh wanted is a cause of exit in POWERDOWN (R92, R126). -/
theorem State.asking_exitWanted {s : State} {marked : Bool} {r : PowerDown} (wanted : (s.prof.lt : Int) ≤ s.refresh.balance)
    (state : s.rank.state = .powerDown r) : (s.asking marked).rank.state = .powerDown { r with exitWanted := true } := by
  rw [State.asking_wanted wanted]
  exact State.wantExit_powerDown (by simpa using state)

/-- With no drain active one starts for REFRESH (R75, R92, R93). -/
theorem State.asking_started {s : State} {marked : Bool} (asked : (s.prof.lt : Int) ≤ s.refresh.balance ∨ marked = true)
    (idle : s.drain.phase = .none) : DrainStarted ⟨true, false, false, false⟩ marked marked s (s.asking marked) := by
  have same := State.asking_sameBut asked
  have added : s.addPurpose .refresh marked = s.startDrain .refresh marked := by
    rw [State.addPurpose_others, if_pos idle]
    rfl
  have cuts : Purpose.refresh.cuts marked = marked := by cases marked <;> rfl
  have started := s.startDrain_started .refresh marked
  rw [← added, cuts] at started
  exact started.of_after (same .drain (by decide)) (same .banks (by decide)) (same .links (by decide))

/-- A drain that starts with grace revokes nothing, so no entry is answered (R75). -/
theorem State.asking_queues {s : State} {marked : Bool} (idle : s.drain.phase = .none) (graced : 0 < s.prof.tGR ∧ marked = false) :
    (s.asking marked).queues = s.queues := by
  obtain ⟨grace, rfl⟩ := graced
  by_cases wanted : (s.prof.lt : Int) ≤ s.refresh.balance
  · have queues : (s.asking false).queues = (s.addPurpose .refresh false).queues := State.asking_sameBut (.inl wanted) .queues (by decide)
    have uncut : ¬(Purpose.refresh.cuts false = true ∨ s.prof.tGR = 0) := by
      rintro (cut | zero)
      · cases cut
      · omega
    rw [queues, State.addPurpose_others, if_pos idle, s.beginDrain_eq, if_neg uncut]
    simp [State.grantsGrace]
  · rw [State.asking_quiet wanted (by simp)]

theorem State.wantExit_awake {s : State} (awake : s.awakeMaster) : s.wantExit.awakeMaster := by
  unfold State.wantExit
  split <;> exact awake

/-- REFRESH asked for leaves the votes and sleep begun. -/
theorem State.asking_awake {s : State} (marked : Bool) (awake : s.awakeMaster) : (s.asking marked).awakeMaster := by
  have added : (s.addPurpose .refresh marked).awakeMaster := awake.of_rank (by simp)
  by_cases wanted : (s.prof.lt : Int) ≤ s.refresh.balance
  · rw [State.asking_wanted wanted]
    exact State.wantExit_awake added
  · by_cases is : marked = true
    · rwa [State.asking_marked wanted is]
    · rwa [State.asking_quiet wanted is]

end Sys2Proof.Machine

namespace Sys2Proof.Proofs

open Sys2Proof Sys2Proof.Machine

/-- Settles O40: the refresh owed (`State.owing`), REFRESH asked for (`State.asking`), and unanimity, which keeps REFRESH and an exit
wanted and, with no entry gone or a master awake, changes nothing. -/
theorem intervalTimerExpiry : Obligations.IntervalTimerExpiry := by
  intro s d timer due b
  let v := s.owing s.marks
  let u := v.asking s.marks
  have owed : SameBut [.refresh, .fault] s v := s.owing_sameBut s.marks
  obtain ⟨asked, asks⟩ := v.asking_rest s.marks
  have judged : SameBut [.links, .queues, .banks, .drain, .mover, .rank, .fault] u (u.judgeRemoval s).settle :=
    (u.judgeRemoval_sameBut s).trans ((State.settle_sameBut _).mono (by decide))
  have whole : SameBut [.links, .queues, .banks, .drain, .mover, .rank, .fault] v (u.judgeRemoval s).settle := asked.trans judged
  have refresh : (u.judgeRemoval s).settle.refresh = v.refresh := whole .refresh (by decide)
  have logs : Logs v (u.judgeRemoval s).settle := (asks.trans (u.judgeRemoval_logs s)).trans (.of_fault (by simp))
  have unit := s.owing_refresh s.marks
  have prof : v.prof = s.prof := congrArg ProfileStore.active (owed .profile (by decide))
  have marks : s.marks = true ↔ b + 1 = s.prof.ppm := decide_eq_true_iff
  refine ⟨(u.judgeRemoval s).settle, exec_intervalTimerExpiry timer due, ?_, fun room => ?_, fun full => ?_, ?_, fun wanted => ?_, fun marked => ?_,
    fun idle asked' how => ?_, fun unwanted unmarked => ?_, ?_, ?_, ?_, ?_⟩
  · rw [refresh, unit]
  · refine ⟨?_, logs.missed.trans (State.owing_owed room s.marks)⟩
    rw [refresh, unit]
    exact if_pos room
  · obtain ⟨missed, record⟩ := State.owing_missed full s.marks
    refine ⟨?_, logs.missed.trans missed, fun room => logs.list.subset (record room)⟩
    rw [refresh, unit]
    exact if_neg (not_lt.mpr full)
  · rw [logs.urgents, State.owing_urgents]
    simp only [marks]
  · rw [refresh, ← prof] at wanted
    obtain ⟨urgent, refreshing, -⟩ := State.asking_refreshing (marked := s.marks) (.inl wanted)
    refine ⟨by simpa using (refreshing.judgeRemoval s).refresh, fun r state => ?_⟩
    obtain ⟨i, rank⟩ := (u.judgeRemoval s).settle_rank
    have same : v.rank = s.rank := owed .rank (by decide)
    rw [rank]
    exact State.judgeRemoval_exitWanted s (State.asking_exitWanted wanted (same ▸ state))
  · obtain ⟨urgent, refreshing, is⟩ := State.asking_refreshing (s := v) (.inr (marks.mpr marked))
    obtain ⟨-, has, urgent'⟩ := refreshing.judgeRemoval s
    exact ⟨by simpa using has, by simpa [is (marks.mpr marked)] using urgent'⟩
  · rw [refresh, ← marks, ← prof] at asked'
    have drain : v.drain = s.drain := owed .drain (by decide)
    have queues : v.queues = s.queues := owed .queues (by decide)
    have still : u.judgeRemoval s = u := by
      rcases how with ⟨grace, unmarked⟩ | awake
      · refine State.judgeRemoval_of_queues ((State.asking_queues ?_ ⟨?_, ?_⟩).trans queues)
        · rw [drain, idle]
        · rwa [prof]
        · exact Bool.eq_false_iff.mpr (mt marks.mp unmarked)
      · exact u.judgeRemoval_awake s (State.asking_awake s.marks (awake.of_rank (owed .rank (by decide))))
    have started := State.asking_started asked' (by rw [drain, idle])
    have before : DrainStarted _ _ _ s u := started.of_before (owed .time (by decide)) (owed .profile (by decide)) (owed .banks (by decide))
      (.of_links (owed .links (by decide)))
    change DrainStarted _ s.marks s.marks s _
    refine before.of_after ?_ ?_ ?_ <;> simp [still]
  · rw [refresh, ← prof] at unwanted
    have quiet : u = v := State.asking_quiet (not_le.mpr unwanted) (mt marks.mp unmarked)
    have still : u.judgeRemoval s = v := by
      rw [quiet, State.judgeRemoval_of_queues (owed .queues (by decide))]
    have drain : v.drain = s.drain := owed .drain (by decide)
    have banks : v.banks = s.banks := owed .banks (by decide)
    simp [still, drain, banks]
  · rw [refresh, unit]
  · rw [refresh, unit]
  · rw [refresh, unit]
  · exact (owed.mono (by decide)).trans (whole.mono (by decide))

end Sys2Proof.Proofs
end

section
/-! PROOFS. Sleep votes and wakes (R127, R128, R131), and the start of the drain of a sleep entry (R75, R76): O27. -/

namespace Sys2Proof.Machine

/-! ### What judging does to the rank (R124, R126, R128) -/

theorem State.judgeIdle_rank (s : State) : ∃ i, s.judgeIdle.rank = { s.rank with idle := i } := by
  obtain ⟨i, judged⟩ := s.judgeIdle_withIdle
  exact ⟨i, by rw [judged]; rfl⟩

/-- An exit wanted changes the rank state, and not its name (R126). -/
theorem State.wantExit_rank (s : State) : ∃ x, s.wantExit.rank = { s.rank with state := x } ∧ x.name = s.rank.state.name := by
  unfold State.wantExit
  split
  · rename_i r state
    exact ⟨_, rfl, by rw [state]; rfl⟩
  all_goals exact ⟨_, rfl, rfl⟩

theorem State.judgeHotExit_rank (s : State) :
    ∃ x, s.judgeHotExit.rank = { s.rank with state := x } ∧ x.name = s.rank.state.name := by
  unfold State.judgeHotExit
  split
  · exact s.wantExit_rank
  · exact ⟨_, rfl, rfl⟩

/-- Where unanimity is what sleep begun says it was, judging it changes nothing (R128). -/
theorem State.judgeUnanimity_same {s : State} (same : s.unanimous = s.rank.sleepBegun) : s.judgeUnanimity = s := by
  cases begun : s.rank.sleepBegun <;> simp [State.judgeUnanimity, same, begun]

/-- Unanimity that is lost withdraws the sleep entry (R83, R128). -/
theorem State.judgeUnanimity_withdraws {s : State} (lost : s.unanimous = false) (begun : s.rank.sleepBegun = true) :
    s.judgeUnanimity = ((s.dropPurpose .sleep).setBegun false).judgeIdle := by
  simp [State.judgeUnanimity, lost, begun]

/-- Unanimity that is reached begins a sleep entry, with an exit wanted in POWERDOWN and the idle timer judged; with no drain active
its DRAIN notices are sent last (R76, R126, R128). -/
theorem State.judgeUnanimity_begins {s : State} (unanimous : s.unanimous = true) (awake : s.rank.sleepBegun = false) :
    s.judgeUnanimity = if s.drain.phase = .none then
        (((s.setBegun true).beginDrain .sleep false).wantExit.judgeIdle).sendDrain (s.setBegun true) .sleep false
      else ((s.setBegun true).addPurpose .sleep false).wantExit.judgeIdle := by
  have judged : s.judgeUnanimity = (s.setBegun true).addPurpose .sleep false fun v => v.wantExit.judgeIdle := by
    simp [State.judgeUnanimity, unanimous, awake]
  rw [judged, State.addPurpose_others]
  rfl

/-- Unanimity judged sets sleep begun to what unanimity says; beside that the idle timer and an exit wanted alone can change (R124,
R126, R128). -/
theorem State.judgeUnanimity_rank (s : State) :
    ∃ x i, s.judgeUnanimity.rank = { s.rank with state := x, idle := i, sleepBegun := s.unanimous } ∧ x.name = s.rank.state.name := by
  by_cases same : s.unanimous = s.rank.sleepBegun
  · rw [State.judgeUnanimity_same same, same]
    exact ⟨_, _, rfl, rfl⟩
  · cases unanimous : s.unanimous with
    | false =>
      have begun : s.rank.sleepBegun = true := by simpa [unanimous] using same
      obtain ⟨i, rank⟩ := ((s.dropPurpose .sleep).setBegun false).judgeIdle_rank
      rw [State.judgeUnanimity_withdraws unanimous begun]
      exact ⟨s.rank.state, i, rank, rfl⟩
    | true =>
      have awake : s.rank.sleepBegun = false := by simpa [unanimous] using same
      have judged (v : State) (kept : v.rank = (s.setBegun true).rank) :
          ∃ x i, v.wantExit.judgeIdle.rank = { s.rank with state := x, idle := i, sleepBegun := true } ∧ x.name = s.rank.state.name := by
        obtain ⟨x, exit, name⟩ := v.wantExit_rank
        obtain ⟨i, idle⟩ := v.wantExit.judgeIdle_rank
        exact ⟨x, i, by rw [idle, exit, kept]; rfl, by rw [name, kept]; rfl⟩
      rw [State.judgeUnanimity_begins unanimous awake]
      split
      · simp only [State.sendDrain_frame]
        exact judged _ (by simp)
      · exact judged _ (by simp)

/-- Unanimity goes by the votes, the queues, the name of the rank state, the thermal state and stop pending (R128). -/
theorem State.unanimous_congr {s t : State} (votes : t.rank.votes = s.rank.votes) (queues : t.queues = s.queues)
    (name : t.rank.state.name = s.rank.state.name) (thermal : t.refresh = s.refresh)
    (stop : t.rank.stopPending = s.rank.stopPending) : t.unanimous = s.unanimous := by
  simp only [State.unanimous, State.queuesEmpty, votes, queues, name, thermal, stop]

theorem State.judgeUnanimity_sameBut (s : State) :
    SameBut [.links, .queues, .banks, .drain, .mover, .rank, .fault] s s.judgeUnanimity := by
  intro x hx
  cases x <;> simp [Part.Agree] at hx ⊢

/-- A judgement of unanimity sends frames, and does nothing else to the links (R76, R128). -/
theorem State.judgeUnanimity_appends (s : State) : Appends (fun _ => True) s s.judgeUnanimity := by
  obtain e | ⟨-, -, e⟩ | ⟨-, -, -, e⟩ | ⟨-, -, -, e⟩ := s.judgeUnanimity_cases id <;> rw [e]
  · exact .of_links rfl
  · exact .of_links (by simp)
  · exact (State.addPurpose_appends (s.setBegun true) .sleep false).trans_links (by simp)
  · have begun : Appends (fun _ => True) s ((s.setBegun true).beginDrain .sleep false) :=
      ((s.setBegun true).beginDrain_appends .sleep false).mono fun _ _ => trivial
    exact (begun.trans_links (by simp)).trans (.foldl (fun v p => v.send_appends p _ trivial) _ _)

/-! ### The drain of a sleep entry (R75, R76, R128) -/

/-- A sleep entry that begins adds SLEEP, and with no drain active it starts one (R75, R128). -/
theorem State.judgeUnanimity_sleepDrain {s : State} (unanimous : s.unanimous = true) (awake : s.rank.sleepBegun = false) :
    s.judgeUnanimity.drain.purposes.sleep = true ∧
      (s.drain.phase = .none → DrainStarted ⟨false, false, true, false⟩ false false s s.judgeUnanimity) := by
  have judged := State.judgeUnanimity_begins unanimous awake
  by_cases idle : s.drain.phase = .none
  · let v := (s.setBegun true).beginDrain .sleep false
    rw [if_pos idle] at judged
    have started : DrainStarted ⟨false, false, true, false⟩ false false s ((s.setBegun true).startDrain .sleep false) :=
      ((s.setBegun true).startDrain_started .sleep false).of_before rfl rfl rfl (.of_links rfl)
    have links : (v.wantExit.judgeIdle.sendDrain (s.setBegun true) .sleep false).links =
        ((s.setBegun true).startDrain .sleep false).links := by
      refine Table.eq_of_look _ _ fun p => ?_
      have epoch : v.wantExit.judgeIdle.frameEpoch p = v.frameEpoch p := by simp [State.frameEpoch, State.epoch?]
      rw [State.startDrain, State.sendDrain_links, State.sendDrain_links, epoch]
      simp [v]
    rw [judged]
    refine ⟨?_, fun _ => started.of_after ?_ ?_ links⟩
    · simp [State.beginDrain_drain, Purposes.add]
    · simp [State.startDrain]
    · simp [State.startDrain]
  · rw [if_neg idle] at judged
    have has : ((s.setBegun true).addPurpose .sleep false).drain.purposes.sleep = true := State.addPurpose_has _ .sleep false
    rw [judged]
    exact ⟨by simpa using has, fun is => absurd is idle⟩

/-- The counting of a frame in sequence is no part of the start of a drain (R76, R136). -/
theorem DrainStarted.of_answered {u : Purposes} {urgent cut : Bool} {s t : State} {p : Port}
    (h : DrainStarted u urgent cut (s.answered p []) t) : DrainStarted u urgent cut s t := by
  have outbound (q : Port) : ((s.answered p []).links.look q).outbound = (s.links.look q).outbound := by
    simp only [State.answered, Table.look_put, List.append_nil]
    split
    · rename_i same
      rw [same]
    · rfl
  have same : (s.answered p []).time = s.time ∧ (s.answered p []).prof = s.prof ∧ (s.answered p []).banks = s.banks := ⟨rfl, rfl, rfl⟩
  simpa only [DrainStarted, State.hasOpen, State.answered_epoch, outbound, same] using h

/-! ### SLEEP_VOTE (R127) -/

/-- A vote taken and answered (R127, R138). -/
def State.voting (s : State) (p : Port) (h : Header) (v : Vote) (m : Message) : State :=
  { s.answered p [⟨h.epoch, h.tag, m⟩] with rank := { s.rank with votes := s.rank.votes.put p (some v) } }

theorem State.vote_reply {s : State} {p : Port} {h : Header} (t : s.takes p h) (v : Vote) (m : Message) :
    ((s.answered p []).setVote p (some v)).reply p h.tag m = s.voting p h v m := by
  have answered := s.answered_reply p h.tag m
  rw [t.frameEpoch] at answered
  rw [State.voting, ← answered]
  rfl

theorem exec_sleepVote {s : State} {p : Port} {h : Header} (t : s.takes p h) : exec (.sleepVote p h) s = .next
    (if s.rank.votes.look p ≠ some .voted then (s.voting p h .voted .voteNoted).judgeHotExit.judgeUnanimity
      else (s.voting p h .voted .voteNoted).judgeHotExit).settle := by
  have vote : (s.answered p []).rank.votes = s.rank.votes := rfl
  simp only [exec, execSleepVote, s.receive_takes p h _ t, State.takeSleepVote, State.vote_reply t, vote, bne_iff_ne]

theorem exec_wake {s : State} {p : Port} {h : Header} (t : s.takes p h) : exec (.wake p h) s = .next
    (if s.rank.votes.look p ≠ some .awake then (s.voting p h .awake .wakeNoted).judgeHotExit.judgeUnanimity
      else s.voting p h .awake .wakeNoted).wantWake.settle := by
  have vote : (s.answered p []).rank.votes = s.rank.votes := rfl
  simp only [exec, execWake, s.receive_takes p h _ t, State.takeWake, State.vote_reply t, vote, bne_iff_ne]

/-- A vote changes the links and the rank's votes, and no more (R127). -/
theorem State.voting_sameBut (s : State) (p : Port) (h : Header) (v : Vote) (m : Message) :
    SameBut [.links, .rank] s (s.voting p h v m) := by
  intro x hx
  cases x <;> simp [Part.Agree, State.voting, State.answered] at hx ⊢

theorem State.voting_outbound (s : State) (p : Port) (h : Header) (v : Vote) (m : Message) :
    (s.links.look p).outbound ++ [⟨h.epoch, h.tag, m⟩] = ((s.voting p h v m).links.look p).outbound := by
  simp [State.voting, State.answered]

theorem State.judgeHotExit_sameBut (s : State) : SameBut [.rank] s s.judgeHotExit := by
  intro x hx
  cases x <;> simp [Part.Agree] at hx ⊢

theorem State.wantWake_sameBut (s : State) : SameBut [.rank] s s.wantWake := by
  intro x hx
  cases x <;> simp [Part.Agree] at hx ⊢

/-- The reply to a vote is no DRAIN notice (R76). -/
theorem State.voting_appends {s : State} {p : Port} {h : Header} (t : s.takes p h) (v : Vote) {m : Message}
    (quiet : ∀ n u, m ≠ .drain n u) : Appends OutFrame.NoDrain (s.answered p []) (s.voting p h v m) := by
  have voted : Appends OutFrame.NoDrain (s.answered p []) ((s.answered p []).setVote p (some v)) := .of_links rfl
  rw [← State.vote_reply t]
  exact voted.trans (State.reply_appends _ p h.tag m quiet)

/-- A vote that changes has unanimity judged, for the state with that vote (R126 to R128). -/
theorem State.voting_begun (s : State) (p : Port) (h : Header) (v : Vote) (m : Message) :
    (s.voting p h v m).judgeHotExit.judgeUnanimity.rank.sleepBegun =
      State.unanimous { s with rank := { s.rank with votes := s.rank.votes.put p (some v) } } := by
  obtain ⟨a, exit, name⟩ := (s.voting p h v m).judgeHotExit_rank
  obtain ⟨b, i, judged, -⟩ := (s.voting p h v m).judgeHotExit.judgeUnanimity_rank
  rw [judged]
  refine State.unanimous_congr ?_ (by simp [State.voting, State.answered]) ?_ (by simp [State.voting, State.answered]) ?_
  · rw [exit]
    rfl
  · rw [exit]
    exact name
  · rw [exit]
    rfl

/-- A sleep entry that a vote begins has SLEEP in the drain, which it starts where none is active (R75, R76, R128). -/
theorem State.voting_sleepDrain {s : State} {p : Port} {h : Header} (t : s.takes p h) {v : Vote} {m : Message}
    (quiet : ∀ n u, m ≠ .drain n u) (awake : s.rank.sleepBegun = false)
    (begun : (s.voting p h v m).judgeHotExit.judgeUnanimity.rank.sleepBegun = true) :
    (s.voting p h v m).judgeHotExit.judgeUnanimity.drain.purposes.sleep = true ∧
      (s.drain.phase = .none →
        DrainStarted ⟨false, false, true, false⟩ false false s (s.voting p h v m).judgeHotExit.judgeUnanimity) := by
  let x := (s.voting p h v m).judgeHotExit
  obtain ⟨a, exit, -⟩ := (s.voting p h v m).judgeHotExit_rank
  obtain ⟨b, i, judged, -⟩ := x.judgeUnanimity_rank
  have unanimous : x.unanimous = true := by
    rw [judged] at begun
    exact begun
  have asleep : x.rank.sleepBegun = false := by
    rw [exit]
    exact awake
  obtain ⟨sleep, starts⟩ := State.judgeUnanimity_sleepDrain unanimous asleep
  have same : x.drain = s.drain ∧ x.time = s.time ∧ x.profile = s.profile ∧ x.banks = s.banks := by
    simp [x, State.voting, State.answered]
  obtain ⟨drain, time, profile, banks⟩ := same
  have before : Appends OutFrame.NoDrain (s.answered p []) x := (State.voting_appends t v quiet).trans_links (by simp [x])
  refine ⟨sleep, fun idle => ?_⟩
  exact ((starts (drain ▸ idle)).of_before (s := s.answered p []) time profile banks before).of_answered

/-! ### WAKE (R127, R128, R131) -/

theorem RankState.name_eq_sleep {x : RankState} : x.name = .sleep ↔ ∃ wanted, x = .sleep wanted := by
  cases x <;> simp [RankState.name]

theorem State.wantWake_rank (s : State) : ∃ x, s.wantWake.rank = { s.rank with state := x } ∧ (s.rank.state.name = .sleep → x = .sleep true) := by
  unfold State.wantWake
  split
  · exact ⟨_, rfl, fun _ => rfl⟩
  all_goals exact ⟨_, rfl, fun name => by simp_all [RankState.name]⟩

/-- With a master awake a judgement of unanimity withdraws SLEEP at most (R83, R128). -/
theorem State.judgeUnanimity_awake_parts {s : State} {p : Port} (vote : s.rank.votes.look p = some .awake) :
    s.judgeUnanimity.drain = s.drainAwake ∧ SameBut [.drain, .rank] s s.judgeUnanimity := by
  rw [s.judgeUnanimity_of_awake id p vote, id]
  split
  · refine ⟨by simp, fun x hx => ?_⟩
    cases x <;> simp [Part.Agree] at hx ⊢
  · rename_i begun
    exact ⟨by simp [State.drainAwake, begun], .refl _ _⟩

/-- What a WAKE makes of a changed vote (R127, R128). -/
theorem State.voting_awake (s : State) (p : Port) (h : Header) (m : Message) :
    let y := (s.voting p h .awake m).judgeHotExit.judgeUnanimity
    y.rank.votes = s.rank.votes.put p (some .awake) ∧ y.rank.sleepBegun = false ∧ y.rank.state.name = s.rank.state.name ∧
      y.drain = s.drainAwake ∧ SameBut [.drain, .rank] (s.voting p h .awake m) y := by
  obtain ⟨a, exit, name⟩ := (s.voting p h .awake m).judgeHotExit_rank
  obtain ⟨b, i, judged, same⟩ := (s.voting p h .awake m).judgeHotExit.judgeUnanimity_rank
  have vote : (s.voting p h .awake m).judgeHotExit.rank.votes.look p = some .awake := by
    rw [exit]
    exact Table.look_put_same _ _ _
  obtain ⟨drain, rest⟩ := State.judgeUnanimity_awake_parts vote
  refine ⟨by rw [judged, exit]; rfl, ?_, by rw [judged]; exact same.trans (by rw [exit]; exact name), ?_,
    ((s.voting p h .awake m).judgeHotExit_sameBut.mono (by decide)).trans rest⟩
  · rw [judged]
    exact State.not_unanimous_of_awake _ p vote
  · rw [drain]
    simp only [State.drainAwake, exit, State.judgeHotExit_frame]
    rfl

end Sys2Proof.Machine

namespace Sys2Proof.Proofs

open Sys2Proof Sys2Proof.Machine

/-- Settles O27: a vote (`State.voting`), then what judging a HOT rank's exit and unanimity can do. -/
theorem votesAreTakenAndJudged : Obligations.VotesAreTakenAndJudged := by
  intro s p h takes
  constructor
  · let v := s.voting p h .voted .voteNoted
    let x := v.judgeHotExit
    let y := if s.rank.votes.look p ≠ some .voted then x.judgeUnanimity else x
    obtain ⟨a, exit, -⟩ := v.judgeHotExit_rank
    obtain ⟨b, i, judged, -⟩ := x.judgeUnanimity_rank
    obtain ⟨j, settled⟩ := y.settle_rank
    have changes (changed : s.rank.votes.look p ≠ some .voted) : y = x.judgeUnanimity := if_pos changed
    have appends : Appends (fun _ => True) v y.settle := by
      have heard : Appends (fun _ => True) v x := .of_links (by simp [x])
      have moved : Appends (fun _ => True) x y := .ite x.judgeUnanimity_appends (.of_links rfl)
      exact (heard.trans moved).trans_links (by simp)
    have begun : y.rank.sleepBegun = true → s.rank.sleepBegun = false → s.rank.votes.look p ≠ some .voted := by
      intro is was unchanged
      have same : y = x := if_neg (not_not.mpr unchanged)
      rw [same, exit] at is
      exact nomatch was.symm.trans is
    refine ⟨y.settle, exec_sleepVote takes, ?_, appends.sent (s.voting_outbound p h .voted .voteNoted), fun changed => ?_,
      fun was is => ?_, ?_⟩
    · rw [settled]
      change y.rank.votes = _
      by_cases changed : s.rank.votes.look p ≠ some .voted
      · rw [changes changed, judged, exit]
        rfl
      · rw [show y = x from if_neg changed, exit]
        rfl
    · rw [settled]
      change y.rank.sleepBegun = _
      rw [changes changed]
      exact s.voting_begun p h .voted .voteNoted
    · rw [settled] at is
      have judges := changes (begun is was)
      obtain ⟨sleep, starts⟩ := State.voting_sleepDrain takes (m := .voteNoted) nofun was (judges ▸ is)
      rw [← show y = _ from judges] at sleep starts
      exact ⟨by simpa using sleep, fun idle => (starts idle).of_after (by simp) (by simp) (by simp)⟩
    · have heard : SameBut [.links, .queues, .banks, .drain, .mover, .rank, .fault] s x :=
        ((s.voting_sameBut p h .voted .voteNoted).mono (by decide)).trans (v.judgeHotExit_sameBut.mono (by decide))
      have judges : SameBut [.links, .queues, .banks, .drain, .mover, .rank, .fault] x y := by
        by_cases changed : s.rank.votes.look p ≠ some .voted
        · rw [changes changed]
          exact x.judgeUnanimity_sameBut
        · rw [show y = x from if_neg changed]
          exact .refl _ _
      exact (heard.trans judges).trans (y.settle_sameBut.mono (by decide))
  · let v := s.voting p h .awake .wakeNoted
    let y := if s.rank.votes.look p ≠ some .awake then v.judgeHotExit.judgeUnanimity else v
    obtain ⟨votes, begun, name, drain, rest⟩ := s.voting_awake p h .wakeNoted
    obtain ⟨a, woken, wakes⟩ := y.wantWake_rank
    obtain ⟨j, settled⟩ := y.wantWake.settle_rank
    have parts : y.rank.votes = s.rank.votes.put p (some .awake) ∧ y.rank.state.name = s.rank.state.name ∧
        SameBut [.drain, .rank] v y := by
      by_cases changed : s.rank.votes.look p ≠ some .awake
      · rw [show y = v.judgeHotExit.judgeUnanimity from if_pos changed]
        exact ⟨votes, name, rest⟩
      · rw [show y = v from if_neg changed]
        exact ⟨rfl, rfl, .refl _ _⟩
    obtain ⟨votes', name', rest'⟩ := parts
    have after : SameBut [.queues, .rank] y y.wantWake.settle :=
      (y.wantWake_sameBut.mono (by decide)).trans y.wantWake.settle_sameBut
    refine ⟨y.wantWake.settle, exec_wake takes, ?_, ?_, fun changed => ?_, fun ⟨w, state⟩ => ?_, ?_⟩
    · rw [settled, woken]
      exact votes'
    · exact (after .links (by decide)).trans (rest' .links (by decide))
    · have judges : y = v.judgeHotExit.judgeUnanimity := if_pos changed
      refine ⟨?_, (after .drain (by decide)).trans ?_⟩
      · rw [settled, woken]
        change y.rank.sleepBegun = false
        rw [judges]
        exact begun
      · rw [judges]
        exact drain
    · rw [settled, woken]
      exact wakes (name'.trans (RankState.name_eq_sleep.mpr ⟨w, state⟩))
    · exact (((s.voting_sameBut p h .awake .wakeNoted).mono (by decide)).trans (rest'.mono (by decide))).trans
        (after.mono (by decide))

end Sys2Proof.Proofs
end

section
/-! PROOFS. A session that leaves: LEAVE, READY_TO_LEAVE and LEAVE_COMPLETE (R86, R138, R141 to R143): O24. -/

namespace Sys2Proof

theorem Table.count_eq_zero {α : Type} {n : Nat} {t : Table α n} {f : α → Bool} (h : ∀ i, f (t.look i) = false) : t.count f = 0 := by
  simp only [Table.count, List.countP_eq_zero, Table.mem_toList]
  rintro _ ⟨i, rfl⟩
  simp [h i]

end Sys2Proof

namespace Sys2Proof.Machine

/-! ### LEAVE (R141) -/

/-- LEAVE makes a JOINED session LEAVING, with its tag (R141). -/
theorem exec_leave_joined {s : State} {p : Port} {h : Header} {e : Byte} (t : s.takes p h)
    (session : (s.links.look p).session = .joined e) : exec (.leave p h) s = .next { s with
      links := s.links.put p { s.links.look p with
        session := .leaving e h.tag false false, expected := (s.links.look p).expected + 1, resync := false } } := by
  have counted : ((s.answered p []).links.look p).session = .joined e := by simp [State.answered, session]
  have taken : (s.answered p []).takeLeave p h.tag =
      (s.answered p []).modLink p fun l => { l with session := .leaving e h.tag false false } := by
    simp only [State.takeLeave, counted]
  simp only [exec, execLeave, s.receive_takes p h _ t, taken]
  simp [State.answered, State.modLink, Table.modify]

/-- A second LEAVE has no further effect (R141). -/
theorem exec_leave_leaving {s : State} {p : Port} {h : Header} {e tag : Byte} {asked report : Bool} (t : s.takes p h)
    (session : (s.links.look p).session = .leaving e tag asked report) : exec (.leave p h) s = .next (s.answered p []) := by
  have counted : ((s.answered p []).links.look p).session = .leaving e tag asked report := by simp [State.answered, session]
  simp only [exec, execLeave, s.receive_takes p h _ t, State.takeLeave, counted]

/-! ### Evaluation for a REVOKING bank tells no one but the ports whose entries it answers (R11, R52) -/

/-- An answer to a front entry goes to its own port, and leaves the banks. -/
theorem State.answerFront_link_other (s : State) {p q : Port} (other : p ≠ q) (e : Entry) (a : Answer) :
    (s.answerFront q e a).links.look p = s.links.look p ∧ (s.answerFront q e a).banks = s.banks := by
  cases a <;> simp [State.answerFront, State.refuse, State.reply, State.send, State.modLink, Ne.symm other]

/-- An entry that waits for a REVOKING bank marks it, without a word; an answer goes to the entry's own port (R11, R52). -/
theorem State.evalRun_link_other {p q : Port} (other : p ≠ q) (b : Bank) (n : Nat) {s : State} {r : Revocation}
    (held : (s.banks.look b).state = .revoking r) : (State.evalRun q b n s).links.look p = s.links.look p := by
  induction n generalizing s with
  | zero => rfl
  | succ n ih =>
    unfold State.evalRun
    split
    · rfl
    · rename_i e _
      split
      · rfl
      · split
        · rw [s.setContention_revoking b r held]
        · rfl
      · rename_i a _
        obtain ⟨link, banks⟩ := s.answerFront_link_other other e a
        rw [ih (by rw [banks]; exact held), link]

/-- A REVOKING bank stays so in an evaluation, of its owner and for its reason (R11, R17). -/
theorem Evaluated.revoking {b x : Bank} {s t : State} (h : Evaluated b s t) {r : Revocation}
    (held : (s.banks.look x).state = .revoking r) :
    ∃ r', (t.banks.look x).state = .revoking r' ∧ r'.owner = r.owner ∧ r'.reason = r.reason := by
  by_cases same : x = b
  · subst same
    have contention := h.contention
    rw [held] at contention
    obtain ⟨r', state, -, owner, reason, -⟩ := contention.of_revoking
    exact ⟨r', state, owner, reason⟩
  · exact ⟨r, by rw [h.others x same]; exact held, rfl, rfl⟩

/-- The evaluation of the entries for a REVOKING bank tells nothing to a port that has no entry (R48, R52). -/
theorem State.reevaluate_quiet {s : State} {p : Port} {b : Bank} {r : Revocation} (empty : (s.queues.look p).entries = [])
    (held : (s.banks.look b).state = .revoking r) :
    (s.reevaluate b).links.look p = s.links.look p ∧ ((s.reevaluate b).queues.look p).entries = [] := by
  have one (u : State) (q : Port)
      (h : u.links.look p = s.links.look p ∧ (u.queues.look p).entries = [] ∧ ∃ r, (u.banks.look b).state = .revoking r) :
      (u.evalFront q b).links.look p = s.links.look p ∧ ((u.evalFront q b).queues.look p).entries = [] ∧
        ∃ r, ((u.evalFront q b).banks.look b).state = .revoking r := by
    obtain ⟨link, none, r, held⟩ := h
    have front : u.front p b = .none := by simp [State.front, none]
    have evaluated := u.evalFront_evaluated q b
    obtain ⟨queue, -⟩ := evaluated.untouched p front
    obtain ⟨r', held', -, -⟩ := evaluated.revoking held
    refine ⟨?_, by rw [queue, none], r', held'⟩
    by_cases same : p = q
    · subst same
      rw [u.evalFront_none p b front, link]
    · rw [State.evalFront, State.evalRun_link_other same b _ held, link]
  obtain ⟨link, queue, -⟩ := foldl_holds (fun u : State => u.links.look p = s.links.look p ∧ (u.queues.look p).entries = [] ∧
    ∃ r, (u.banks.look b).state = .revoking r) (fun u q => u.evalFront q b) one allPorts s ⟨rfl, empty, r, held⟩
  exact ⟨link, queue⟩

/-! ### The revocations of a leaving session (R17, R86) -/

/-- The bank is being revoked from the owner, who leaves (R86). -/
def State.LeftBank (s : State) (o : Owner) (b : Bank) : Prop :=
  ∃ x, (s.banks.look b).state = .revoking x ∧ x.owner = o ∧ x.reason = .portLeft

/-- From `s` to `t` banks have been taken from a leaving owner whose queue is empty: his port is told nothing, every bank is his or
not as it was, and a bank that is not his has not changed. -/
structure TakenBack (o : Owner) (s t : State) : Prop where
  link : t.links.look o.port = s.links.look o.port
  queue : (s.queues.look o.port).entries = [] → (t.queues.look o.port).entries = []
  owner : ∀ b, (t.banks.look b).state.owner? = some o ↔ (s.banks.look b).state.owner? = some o
  others : ∀ b, (s.banks.look b).state.owner? ≠ some o → t.banks.look b = s.banks.look b
  left : ∀ b, s.LeftBank o b → t.LeftBank o b
  rest : SameBut [.links, .queues, .banks, .mover, .fault] s t

theorem TakenBack.refl (o : Owner) (s : State) : TakenBack o s s :=
  ⟨rfl, id, fun _ => Iff.rfl, fun _ _ => rfl, fun _ => id, .refl _ s⟩

theorem TakenBack.trans {o : Owner} {s t u : State} (h : TakenBack o s t) (g : TakenBack o t u) : TakenBack o s u where
  link := g.link.trans h.link
  queue := g.queue ∘ h.queue
  owner b := (g.owner b).trans (h.owner b)
  others b other := (g.others b (mt (h.owner b).mp other)).trans (h.others b other)
  left b := g.left b ∘ h.left b
  rest := h.rest.trans g.rest

/-- What a PORT_LEFT revocation makes of an owned bank (R17, R86). -/
theorem State.revoke_left {s : State} {o : Owner} {b : Bank} (owns : (s.banks.look b).state.owner? = some o) :
    (s.revoke b .portLeft).LeftBank o b ∧ ∀ x, x ≠ b → (s.revoke b .portLeft).banks.look x = s.banks.look x := by
  cases held : (s.banks.look b).state with
  | closed => rw [held] at owns; cases owns
  | opened l =>
    rw [held] at owns
    cases owns
    rw [s.revoke_opened b .portLeft l held]
    exact ⟨⟨_, congrArg BankEntry.state (Table.look_put_same _ _ _), rfl, rfl⟩, fun x other => Table.look_put_other _ _ _ _ (Ne.symm other)⟩
  | revoking r =>
    rw [held] at owns
    cases owns
    have revoked : s.revoke b .portLeft = s.modBank b fun e => { e with state := .revoking { r with reason := .portLeft } } := by
      simp only [State.revoke, held, RevokeReason.replaces, if_true]
    rw [revoked]
    exact ⟨⟨_, congrArg BankEntry.state (Table.look_modify_same _ _ _), rfl, rfl⟩,
      fun x other => Table.look_modify_other _ _ _ _ (Ne.symm other)⟩

theorem State.owns_iff {s : State} {o : Owner} {b : Bank} : s.owns o b = true ↔ (s.banks.look b).state.owner? = some o := by
  simp [State.owns]

theorem State.LeftBank.owner {s : State} {o : Owner} {b : Bank} (h : s.LeftBank o b) : (s.banks.look b).state.owner? = some o := by
  obtain ⟨x, held, owner, -⟩ := h
  rw [held, ← owner]
  rfl

/-- The revocation of one bank of a leaving session (R86). -/
theorem State.revokeOwned_left {s : State} {o : Owner} (b : Bank) (empty : (s.queues.look o.port).entries = []) :
    TakenBack o s (s.revokeOwned o .portLeft b) ∧
      ((s.banks.look b).state.owner? = some o → (s.revokeOwned o .portLeft b).LeftBank o b) := by
  by_cases owns : s.owns o b = true
  · let v := s.revoke b .portLeft
    have revoked : s.revokeOwned o .portLeft b = v.reevaluate b := if_pos owns
    obtain ⟨left, others⟩ := State.revoke_left (State.owns_iff.mp owns)
    obtain ⟨x, held, owner, reason⟩ := left
    have evaluated := v.reevaluate_evaluated b
    have none : (v.queues.look o.port).entries = [] := by simpa [v] using empty
    obtain ⟨link, queue⟩ := State.reevaluate_quiet none held
    have leaves : (v.reevaluate b).LeftBank o b := by
      obtain ⟨x', held', owner', reason'⟩ := evaluated.revoking held
      exact ⟨x', held', owner'.trans owner, reason'.trans reason⟩
    have elsewhere (y : Bank) (other : y ≠ b) : (v.reevaluate b).banks.look y = s.banks.look y := by
      rw [evaluated.others y other, others y other]
    rw [revoked]
    refine ⟨⟨by rw [link]; simp [v], fun _ => queue, fun y => ?_, fun y other => ?_, fun y was => ?_, ?_⟩, fun _ => leaves⟩
    · by_cases same : y = b
      · subst same
        exact iff_of_true leaves.owner (State.owns_iff.mp owns)
      · rw [elsewhere y same]
    · refine elsewhere y fun same => ?_
      subst same
      exact other (State.owns_iff.mp owns)
    · by_cases same : y = b
      · subst same
        exact leaves
      · rw [State.LeftBank, elsewhere y same]
        exact was
    · refine SameBut.trans (t := v) (fun z hz => ?_) (evaluated.rest.mono (by decide))
      cases z <;> simp [Part.Agree, v] at hz ⊢
  · have same : s.revokeOwned o .portLeft b = s := if_neg owns
    rw [same]
    exact ⟨.refl o s, fun is => absurd (State.owns_iff.mpr is) owns⟩

/-- The revocations of a leaving session over some banks (R86). -/
theorem State.revokesOwned_left {o : Owner} (l : List Bank) {s : State} (empty : (s.queues.look o.port).entries = []) :
    TakenBack o s (l.foldl (State.revokeOwned o .portLeft) s) ∧
      ∀ b ∈ l, (s.banks.look b).state.owner? = some o → (l.foldl (State.revokeOwned o .portLeft) s).LeftBank o b := by
  induction l generalizing s with
  | nil => exact ⟨.refl o s, nofun⟩
  | cons a l ih =>
    obtain ⟨first, left⟩ := State.revokeOwned_left a empty
    obtain ⟨rest, lefts⟩ := ih (first.queue empty)
    refine ⟨first.trans rest, List.forall_mem_cons.mpr ⟨fun owns => rest.left a (left owns), fun b mem owns => ?_⟩⟩
    exact lefts b mem ((first.owner b).mpr owns)

/-! ### READY_TO_LEAVE (R86, R141) -/

theorem TakenBack.ownsAny {o : Owner} {s t : State} (h : TakenBack o s t) : t.ownsAny o = s.ownsAny o := by
  rw [Bool.eq_iff_iff]
  simp [State.ownsAny, State.owns, h.owner]

/-- The report of a leave that has asked: yes where the session owns no bank (R86, R142). -/
theorem State.reportLeave_asked {s : State} {o : Owner} {tag : Byte}
    (session : (s.links.look o.port).session = .leaving o.epoch tag true false) :
    (s.reportLeave o).links.look o.port = { s.links.look o.port with session := .leaving o.epoch tag true (!s.ownsAny o) } := by
  cases owns : s.ownsAny o with
  | true =>
    have same : s.reportLeave o = s := by simp [State.reportLeave, session, owns]
    rw [same, Bool.not_true, ← session]
  | false => simp [State.reportLeave, session, owns, State.modLink]

/-- The revocations of a leave asked for, and its report (R86, R141). -/
def State.leaving (s : State) (p : Port) (e tag : Byte) : State :=
  (allBanks.foldl (State.revokeOwned ⟨p, e⟩ .portLeft)
    (s.modLink p fun l => { l with session := .leaving e tag true false })).reportLeave ⟨p, e⟩

/-- A port with an empty queue and every slot and space FREE has nothing in hand (R141, assumption 10). -/
theorem State.nothingInHand_of {s : State} {p : Port} (queue : (s.queues.look p).entries = [])
    (slots : ∀ i, (s.mover.ports.look p).slots.look i = .free) (spaces : ∀ i, (s.mover.ports.look p).spaces.look i = .free) :
    s.nothingInHand p = true := by
  have noSpace : s.spacesInUse p = 0 := Table.count_eq_zero fun i => by rw [spaces]; rfl
  have noSlot : s.slotsInUse p = 0 := Table.count_eq_zero fun i => by rw [slots]; rfl
  simp [State.nothingInHand, queue, noSpace, noSlot]

/-- What a leave asked for makes of the session's link and of its banks (R86, R141). -/
theorem State.leaving_parts {s : State} {p : Port} {e tag : Byte} (queue : (s.queues.look p).entries = []) :
    (s.leaving p e tag).links.look p = { s.links.look p with session := .leaving e tag true (!s.ownsAny ⟨p, e⟩) } ∧
      (∀ b, (s.banks.look b).state.owner? = some ⟨p, e⟩ → (s.leaving p e tag).LeftBank ⟨p, e⟩ b) ∧
      (∀ b, (s.banks.look b).state.owner? ≠ some ⟨p, e⟩ → (s.leaving p e tag).banks.look b = s.banks.look b) ∧
      SameBut [.links, .queues, .banks, .mover, .fault] s (s.leaving p e tag) := by
  let u := s.modLink p fun l => { l with session := .leaving e tag true false }
  let v := allBanks.foldl (State.revokeOwned ⟨p, e⟩ .portLeft) u
  obtain ⟨taken, left⟩ := State.revokesOwned_left (o := ⟨p, e⟩) allBanks (s := u) queue
  have asked : u.links.look p = { s.links.look p with session := .leaving e tag true false } := by simp [u, State.modLink]
  have link : v.links.look p = _ := taken.link.trans asked
  have report := State.reportLeave_asked (s := v) (o := ⟨p, e⟩) (tag := tag) (by rw [link])
  have banks : (s.leaving p e tag).banks = v.banks := by simp [State.leaving, v, u]
  have owns : v.ownsAny ⟨p, e⟩ = s.ownsAny ⟨p, e⟩ := taken.ownsAny
  refine ⟨?_, fun b owned => ?_, fun b other => ?_, ?_⟩
  · rw [link, owns] at report
    exact report
  · rw [State.LeftBank, banks]
    exact left b (mem_allBanks b) owned
  · rw [banks]
    exact taken.others b other
  · have marked : SameBut [.links, .queues, .banks, .mover, .fault] s u := by
      intro x hx
      cases x <;> simp [Part.Agree, u] at hx ⊢
    have reported : SameBut [.links] v (v.reportLeave ⟨p, e⟩) := by
      intro x hx
      cases x <;> simp [Part.Agree] at hx ⊢
    exact (marked.trans taken.rest).trans (reported.mono (by decide))

theorem exec_readyToLeave {s : State} {p : Port} {e tag : Byte} {report : Bool}
    (session : (s.links.look p).session = .leaving e tag false report) (queue : (s.queues.look p).entries = [])
    (slots : ∀ i, (s.mover.ports.look p).slots.look i = .free) (spaces : ∀ i, (s.mover.ports.look p).spaces.look i = .free)
    (awake : s.awakeMaster) : exec (.readyToLeave p) s = .next (s.leaving p e tag).settle := by
  have ready : s.leaveReady p = some (e, tag) := by
    simp only [State.leaveReady, session, State.nothingInHand_of queue slots spaces, if_true]
  obtain ⟨-, -, -, rest⟩ := State.leaving_parts (e := e) (tag := tag) queue
  have asked : s.askLeave p e tag = ((s.leaving p e tag).judgeRemoval s).settle := rfl
  simp only [exec, execReadyToLeave, ready, asked]
  rw [State.judgeRemoval_awake _ s (awake.of_rank (rest .rank (by decide)))]

/-! ### The thermal state at a session's end (R102 to R104) -/

/-- The thermal state after an evaluation follows the table of R102. -/
theorem State.thermalNext_hot (s : State) : s.thermalNext = .hot ↔
    (s.refresh.thermal = .normal ∧
        (s.refresh.thot = true ∨ ∃ p x, s.refresh.table.look p = some x ∧ (s.prof.threshold : Int) ≤ x)) ∨
      (s.refresh.thermal = .hot ∧
        (s.refresh.thot = true ∨ ∃ p x, s.refresh.table.look p = some x ∧ (s.prof.threshold : Int) - 5 ≤ x)) := by
  cases thermal : s.refresh.thermal with
  | normal => cases hot : s.refresh.thot <;> simp [State.thermalNext, thermal, hot, Table.any_iff, Option.any_eq_true]
  | hot =>
    have cool : Table.all s.refresh.table (fun t => t.all fun x => decide (x < (s.prof.threshold : Int) - 5)) = true ↔
        ¬∃ p x, s.refresh.table.look p = some x ∧ (s.prof.threshold : Int) - 5 ≤ x := by
      simp only [Table.all_iff, Option.all_eq_true, decide_eq_true_eq, not_exists, not_and, not_le]
    cases hot : s.refresh.thot with
    | true => simp [State.thermalNext, thermal, hot]
    | false =>
      simp only [State.thermalNext, thermal, hot, Bool.not_false, Bool.true_and, cool]
      simp

/-- With a master awake the report of a thermal state changes the rank state at most (R103, R126, R131). -/
theorem State.reportThermal_awake {s : State} (awake : s.awakeMaster) :
    s.reportThermal.rank.votes = s.rank.votes ∧ SameBut [.rank] s s.reportThermal := by
  let w := if s.refresh.thermal = .hot then s.wantWake else s
  have woken : (∃ x, w.rank = { s.rank with state := x }) ∧ SameBut [.rank] s w := by
    by_cases hot : s.refresh.thermal = .hot
    · obtain ⟨x, wake, -⟩ := s.wantWake_rank
      rw [show w = s.wantWake from if_pos hot]
      exact ⟨⟨x, wake⟩, s.wantWake_sameBut⟩
    · rw [show w = s from if_neg hot]
      exact ⟨⟨s.rank.state, rfl⟩, .refl _ _⟩
  obtain ⟨⟨x, rank⟩, rest⟩ := woken
  obtain ⟨y, exit, -⟩ := w.judgeHotExit_rank
  have still : s.reportThermal = w.judgeHotExit := by
    refine State.judgeUnanimity_awake _ id ?_
    rw [State.awakeMaster, exit, rank]
    exact awake
  rw [still]
  exact ⟨by rw [exit, rank], rest.trans w.judgeHotExit_sameBut⟩

/-- A change of the thermal state is told to the ports that have a session (R103). -/
theorem State.thermalChange_link {s : State} (t : Thermal) (c : ThermalCause) {p : Port} (none : s.epoch? p = none) :
    (s.thermalChange t c).links.look p = s.links.look p := by
  have told : (s.thermalChange t c).links = (s.told (.thermal t)).links := by
    simp only [State.thermalChange, State.noticeAll_told]
    rfl
  rw [told]
  simp [State.told, none]

/-- An evaluation with a master awake gives the next thermal state, and leaves the table, the level, the votes and the link of a port
without a session (R102, R103). -/
theorem State.evalThermal_awake {s t : State} {c : ThermalCause} (awake : s.awakeMaster) (evaluated : t = s.evalThermal c id) :
    t.refresh.thermal = s.thermalNext ∧ t.refresh.table = s.refresh.table ∧ t.refresh.thot = s.refresh.thot ∧
      t.rank.votes = s.rank.votes ∧ (∀ p, s.epoch? p = none → t.links.look p = s.links.look p) ∧
      SameBut [.links, .refresh, .rank, .fault] s t := by
  by_cases unchanged : s.thermalNext = s.refresh.thermal
  · have same : t = s := evaluated.trans (if_pos unchanged)
    rw [same]
    exact ⟨unchanged.symm, rfl, rfl, rfl, fun _ _ => rfl, .refl _ s⟩
  · let v := s.thermalChange s.thermalNext c
    have changed : t = v.reportThermal := evaluated.trans (if_neg unchanged)
    obtain ⟨votes, rest⟩ := State.reportThermal_awake (s := v) (awake.of_rank (by simp [v]))
    rw [← changed] at votes rest
    have refresh : t.refresh = v.refresh := rest .refresh (by decide)
    have links : t.links = v.links := rest .links (by decide)
    rw [refresh, links, votes]
    refine ⟨by simp [v, State.thermalChange], by simp [v, State.thermalChange], by simp [v, State.thermalChange], by simp [v],
      fun p none => State.thermalChange_link _ c none, ?_⟩
    refine SameBut.trans (t := v) (fun z hz => ?_) (rest.mono (by decide))
    cases z <;> simp [Part.Agree, v] at hz ⊢

/-! ### LEAVE_COMPLETE (R86, R142, R143) -/

/-- The end of a leave that owns no bank and has nothing to send, up to the evaluation of the thermal state (R142, R143). -/
def State.ending (s : State) (p : Port) (e : Byte) : State :=
  let v := (((s.discardOutbound p).modLink p SessionEnd.left.link).discardQueue p).forget ⟨p, e⟩
  let w := v.setVote p none
  { w with refresh := { w.refresh with table := w.refresh.table.put p none } }

/-- A session that owns no bank has none to be revoked (R86). -/
theorem State.revokesOwned_none {o : Owner} {reason : RevokeReason} {s : State} (none : ∀ b, (s.banks.look b).state.owner? ≠ some o) :
    allBanks.foldl (State.revokeOwned o reason) s = s := by
  refine foldl_holds (fun u => u = s) _ (fun u b same => ?_) allBanks s rfl
  subst same
  exact if_neg (mt State.owns_iff.mp (none b))

/-- The end of a session that leaves, with another master awake (R128, R143). -/
theorem State.endSession_left {s : State} {p : Port} {e : Byte} (none : s.ownsAny ⟨p, e⟩ = false)
    (other : ∃ q, q ≠ p ∧ s.rank.votes.look q = some .awake) (awake : s.rank.sleepBegun = false) :
    s.endSession p e .left = (s.ending p e).evalThermal (.sessionEnd p) id ∧ (s.ending p e).awakeMaster := by
  obtain ⟨q, differs, vote⟩ := other
  let v := (((s.discardOutbound p).modLink p SessionEnd.left.link).discardQueue p).forget ⟨p, e⟩
  have owners (b : Bank) : (v.banks.look b).state.owner? ≠ some ⟨p, e⟩ := by
    have banks : (v.banks.look b).state = (s.banks.look b).state := by
      simp [v, State.forget, State.discardQueue]
    rw [banks]
    exact State.ownsAny_eq_false.mp none b
  have rank : v.rank = s.rank := by simp [v, State.discardQueue]
  have still : (v.setVote p .none).awakeMaster := by
    refine ⟨?_, q, ?_⟩
    · change v.rank.sleepBegun = false
      rw [rank, awake]
    · change (v.rank.votes.put p .none).look q = _
      rw [rank, Table.look_put_other _ _ _ _ (Ne.symm differs), vote]
  refine ⟨?_, still⟩
  have ended : s.endSession p e .left = ((allBanks.foldl (State.revokeOwned ⟨p, e⟩ .portLeft) v).setVote p .none).judgeUnanimity
      fun s => State.evalThermal { s with refresh := { s.refresh with table := s.refresh.table.put p .none } } (.sessionEnd p) id := rfl
  rw [ended, State.revokesOwned_none owners, State.judgeUnanimity_awake _ _ still]
  rfl

/-- What the end of the session makes of the port's link, queue, vote and temperature, and of the banks (R142, R143). -/
theorem State.ending_parts (s : State) (p : Port) (e : Byte) :
    (s.ending p e).links.look p = { s.links.look p with session := .linked, outbound := [] } ∧
      (s.ending p e).queues.look p = ⟨[], []⟩ ∧ (s.ending p e).rank.votes = s.rank.votes.put p none ∧
      (s.ending p e).refresh = { s.refresh with table := s.refresh.table.put p none } ∧
      (∀ b, ((s.ending p e).banks.look b).state = (s.banks.look b).state) ∧
      SameBut [.links, .queues, .banks, .mover, .refresh, .rank, .fault] s (s.ending p e) := by
  refine ⟨?_, ?_, ?_, ?_, fun b => ?_, fun x hx => ?_⟩
  · simp [State.ending, State.setVote, State.discardQueue, State.discardOutbound, State.modLink, SessionEnd.link]
  · simp [State.ending, State.setVote, State.discardQueue, State.modQueue, PortQueue.reset]
  · simp [State.ending, State.setVote, State.discardQueue]
  · simp [State.ending, State.setVote, State.discardQueue]
  · simp [State.ending, State.setVote, State.forget, State.discardQueue]
  · cases x <;> simp [Part.Agree, State.ending, State.setVote, State.discardQueue] at hx ⊢

theorem exec_leaveComplete {s : State} {p : Port} {e tag : Byte} {asked : Bool}
    (session : (s.links.look p).session = .leaving e tag asked true) (sent : (s.links.look p).outbound = [])
    (none : s.ownsAny ⟨p, e⟩ = false) (other : ∃ q, q ≠ p ∧ s.rank.votes.look q = some .awake) (awake : s.rank.sleepBegun = false) :
    exec (.leaveComplete p) s =
      .next (((s.ending p e).evalThermal (.sessionEnd p) id).send p ⟨e, tag, .bye⟩).settle := by
  have done : s.leaveDone p = some (e, tag) := by simp [State.leaveDone, session, sent]
  obtain ⟨ended, -⟩ := State.endSession_left none other awake
  simp only [exec, execLeaveComplete, done, ended]

/-- The end of a happening leaves an empty queue empty (R54). -/
theorem State.settle_queue_empty {s : State} {p : Port} (empty : s.queues.look p = ⟨[], []⟩) : s.settle.queues.look p = ⟨[], []⟩ := by
  simp [State.settle, State.reassess, empty]

end Sys2Proof.Machine

namespace Sys2Proof.Proofs

open Sys2Proof Sys2Proof.Machine

/-- Settles O24: LEAVE (`exec_leave_joined`), the revocations asked for bank by bank (`State.leaving_parts`), and the session's end with
its BYE after the evaluation of the thermal state (`State.ending_parts`, `State.evalThermal_awake`). -/
theorem leaveAsksAndCompletes : Obligations.LeaveAsksAndCompletes := by
  intro s p e l
  refine ⟨fun h takes => ⟨exec_leave_joined takes, fun tag asked report => exec_leave_leaving takes⟩, fun other awake =>
    ⟨fun tag report session queue slots spaces => ?_, fun tag asked session sent none => ?_⟩⟩
  · obtain ⟨q, -, vote⟩ := other
    obtain ⟨link, left, others, rest⟩ := State.leaving_parts (e := e) (tag := tag) queue
    refine ⟨_, exec_readyToLeave session queue slots spaces ⟨awake, q, vote⟩, ?_, fun b owned => ?_, fun b foreign => ?_, ?_⟩
    · simpa using link
    · simpa [State.LeftBank] using left b owned
    · simpa using others b foreign
    · exact (rest.mono (by decide)).trans ((State.settle_sameBut _).mono (by decide))
  · obtain ⟨-, wakes⟩ := State.endSession_left none other awake
    obtain ⟨link, queue, votes, refresh, banks, rest⟩ := s.ending_parts p e
    have gone : (s.ending p e).epoch? p = .none := by rw [State.epoch?, link]; rfl
    let v := (s.ending p e).evalThermal (.sessionEnd p) id
    obtain ⟨thermal, table, thot, kept, links, stays⟩ := State.evalThermal_awake (t := v) wakes rfl
    have same : SameBut [.links] v (v.send p ⟨e, tag, .bye⟩) := by
      intro x hx
      cases x <;> simp [Part.Agree] at hx ⊢
    obtain ⟨i, rank⟩ := (v.send p ⟨e, tag, .bye⟩).settle_rank
    have prof : (s.ending p e).prof = s.prof := congrArg ProfileStore.active (rest .profile (by decide))
    refine ⟨_, exec_leaveComplete session sent none other awake, ?_, State.settle_queue_empty ?_, ?_, ?_, ?_, fun b => ?_, ?_⟩
    · have linked := (links p gone).trans link
      simp [State.send, State.modLink, v, linked, l]
    · exact (congrArg (fun x => Table.look x p) (stays .queues (by decide))).trans queue
    · rw [rank]
      exact kept.trans votes
    · have unit : (v.send p ⟨e, tag, .bye⟩).settle.refresh = v.refresh := by simp
      rw [unit, table, refresh]
    · have unit : (v.send p ⟨e, tag, .bye⟩).settle.refresh = v.refresh := by simp
      rw [ThermalRule, unit, thermal, table, thot, State.thermalNext_hot, prof, refresh]
    · have kept : v.banks = (s.ending p e).banks := stays .banks (by decide)
      have now : (v.send p ⟨e, tag, .bye⟩).settle.banks = v.banks := by simp
      rw [now, kept, banks]
    · exact ((rest.trans (stays.mono (by decide))).trans (same.mono (by decide))).trans ((State.settle_sameBut _).mono (by decide))

end Sys2Proof.Proofs
end

section
/-! PROOFS. The evaluation of the thermal state by a temperature report and by the THOT line (R100 to R103): O28 and O29. -/

namespace Sys2Proof.Machine

/-! ### A change of the thermal state (R103) -/

/-- Steps 1 to 3 of a change: told to every current session, recorded, the interval timer cut short (R103). -/
theorem State.thermalChange_eq (s : State) (t : Thermal) (c : ThermalCause) : s.thermalChange t c =
    { s.told (.thermal t) with
      refresh := { s.refresh with thermal := t, timer := s.timerAfterChange t }
      fault := s.fault.hand
        ⟨if t = .hot then .thermalHot else .thermalClear, c.port?, none, .cause c, s.time48⟩ } := by
  simp only [State.thermalChange, State.noticeAll_told]
  rfl

theorem State.timerAfterChange_eq (s : State) (t : Thermal) : s.timerAfterChange t =
    if t = .hot then s.refresh.timer.map fun u => min u (s.time + s.prof.tRFI / 2) else s.refresh.timer := by
  cases t <;> rfl

/-- The record of a change is in the list of all that follows it, unless the list was full (R103, R165). -/
theorem State.thermalChange_record {s t : State} {x : Thermal} {c : ThermalCause} (room : s.fault.list.length < 16)
    (later : Logs (s.thermalChange x c) t) :
    ⟨if x = .hot then .thermalHot else .thermalClear, c.port?, none, .cause c, s.time48⟩ ∈ t.fault.list := by
  refine later.list.subset ?_
  rw [State.thermalChange_eq]
  simp only [FaultUnit.hand_list, if_pos room]
  simp

/-- The report of a thermal state records at most what the drain of a sleep entry records (R79, R103, R128). -/
theorem State.reportThermal_logs (s : State) : Logs s s.reportThermal := by
  have judged : Logs s (if s.refresh.thermal = .hot then s.wantWake else s).judgeHotExit :=
    .of_fault (by split <;> simp)
  exact judged.trans (State.judgeUnanimity_logs _)

/-- The report of a thermal state sends frames, and does nothing else to the links (R76, R103, R128). -/
theorem State.reportThermal_appends (s : State) : Appends (fun _ => True) s s.reportThermal := by
  have judged : Appends (fun _ => True) s (if s.refresh.thermal = .hot then s.wantWake else s).judgeHotExit :=
    .of_links (by split <;> simp)
  exact judged.trans (State.judgeUnanimity_appends _)

/-- The report and the end of the happening, by what they send and record. -/
theorem State.reportThermal_settle (s : State) :
    Appends (fun _ => True) s s.reportThermal.settle ∧ Logs s s.reportThermal.settle :=
  ⟨s.reportThermal_appends.trans_links (by simp), s.reportThermal_logs.trans (.of_fault (by simp))⟩

/-! ### The evaluation (R102) -/

theorem State.evalThermal_same {s : State} (same : s.thermalNext = s.refresh.thermal) (c : ThermalCause)
    (reply : State → State) : s.evalThermal c reply = reply s := if_pos same

theorem State.evalThermal_changed {s : State} (changed : s.thermalNext ≠ s.refresh.thermal) (c : ThermalCause)
    (reply : State → State) :
    s.evalThermal c reply = (reply (s.thermalChange s.thermalNext c)).reportThermal := if_neg changed

/-- An evaluation sets the thermal state, and at a change the timer; the reply to a report leaves the Refresh Unit (R102, R103). -/
theorem State.evalThermal_refresh (s : State) (c : ThermalCause) (reply : State → State)
    (kept : ∀ v, (reply v).refresh = v.refresh) : (s.evalThermal c reply).settle.refresh = { s.refresh with
      thermal := s.thermalNext
      timer := if s.thermalNext = s.refresh.thermal then s.refresh.timer else s.timerAfterChange s.thermalNext } := by
  rw [show (s.evalThermal c reply).settle.refresh = (s.evalThermal c reply).refresh by simp]
  by_cases same : s.thermalNext = s.refresh.thermal
  · rw [State.evalThermal_same same, kept, if_pos same, same]
  · rw [State.evalThermal_changed same, if_neg same]
    simp only [State.reportThermal_frame, kept, State.thermalChange_eq]

/-- The thermal state after an evaluation is what R102 gives from the profile and the thermal state before it. -/
theorem ThermalRule.of_evaluated {s v t : State} (thermal : t.refresh.thermal = v.thermalNext)
    (before : v.refresh.thermal = s.refresh.thermal) (prof : v.prof = s.prof) (table : t.refresh.table = v.refresh.table)
    (thot : t.refresh.thot = v.refresh.thot) : ThermalRule s t := by
  rw [ThermalRule, thermal, State.thermalNext_hot, before, prof, table, thot]

/-! ### TEMP_REPORT (R100) -/

/-- A report counted as a frame in sequence and recorded in the thermal table (R100, R136). -/
def State.reported (s : State) (p : Port) (y : Int) : State :=
  { s.answered p [] with refresh := { s.refresh with table := s.refresh.table.put p (some y) } }

/-- The answer to a report, with the thermal state at its creation (R100). -/
def State.noteTemperature (p : Port) (tag : Byte) (y : Int) (s : State) : State :=
  s.reply p tag (.tempNoted y s.refresh.thermal)

theorem exec_tempReport {s : State} {p : Port} {h : Header} (takes : s.takes p h) (x : BitVec 16) :
    exec (.tempReport p h x) s = .next (((s.reported p (clampTemperature x)).evalThermal (.report p)
      (State.noteTemperature p h.tag (clampTemperature x))).settle) := by
  simp only [exec, execTempReport, s.receive_takes p h _ takes]
  rfl

/-- A report that changes nothing of the thermal state: recorded and answered (R100, R102). -/
theorem State.reported_note {s : State} {p : Port} {h : Header} (takes : s.takes p h) (y : Int) :
    State.noteTemperature p h.tag y (s.reported p y) =
      { s.answered p [⟨h.epoch, h.tag, .tempNoted y s.refresh.thermal⟩] with refresh := (s.reported p y).refresh } := by
  have answered := s.answered_reply p h.tag (.tempNoted y s.refresh.thermal)
  rw [takes.frameEpoch] at answered
  rw [← answered]
  rfl

/-- The notice of a change goes to every current session, and the answer to the report after it (R100, R103). -/
theorem State.reported_sent {s : State} {p : Port} {h : Header} (takes : s.takes p h) (y : Int) (t : Thermal) (c : ThermalCause) :
    (s.links.look p).outbound ++ [⟨h.epoch, 0, .thermal t⟩, ⟨h.epoch, h.tag, .tempNoted y t⟩] =
      ((State.noteTemperature p h.tag y ((s.reported p y).thermalChange t c)).links.look p).outbound := by
  have current : (s.reported p y).epoch? p = some h.epoch := (s.answered_epoch p p []).trans takes.2
  have epoch : ((s.reported p y).thermalChange t c).frameEpoch p = h.epoch := by
    rw [State.thermalChange_eq]
    exact congrArg (Option.getD · 0) (((s.reported p y).told_epoch (.thermal t) p).trans current)
  have told : (((s.reported p y).thermalChange t c).links.look p).outbound =
      (s.links.look p).outbound ++ [⟨h.epoch, 0, .thermal t⟩] := by
    rw [State.thermalChange_eq]
    refine ((s.reported p y).told_outbound (.thermal t) current).trans ?_
    simp [State.reported, State.answered]
  have thermal : ((s.reported p y).thermalChange t c).refresh.thermal = t := by rw [State.thermalChange_eq]
  simp [State.noteTemperature, State.reply, State.send, State.modLink, epoch, told, thermal]

end Sys2Proof.Machine

namespace Sys2Proof.Proofs

open Sys2Proof Sys2Proof.Machine

/-- Settles O28: the report recorded (`State.reported`) and the evaluation of the thermal state, without a change and with one. -/
theorem temperatureReportsAreEvaluated : Obligations.TemperatureReportsAreEvaluated := by
  intro s p h x takes y
  let v := s.reported p y
  let note := State.noteTemperature p h.tag y
  let t := v.evalThermal (.report p) note
  have refresh : t.settle.refresh = { v.refresh with
      thermal := v.thermalNext
      timer := if v.thermalNext = s.refresh.thermal then s.refresh.timer else v.timerAfterChange v.thermalNext } :=
    v.evalThermal_refresh _ note fun _ => rfl
  have thermal : t.settle.refresh.thermal = v.thermalNext := by rw [refresh]
  refine ⟨t.settle, exec_tempReport takes x, by rw [refresh]; rfl, by rw [refresh]; rfl,
    .of_evaluated (v := v) thermal rfl rfl (by rw [refresh]) (by rw [refresh]), by rw [refresh]; rfl,
    fun same => ?_, fun changed => ?_⟩
  · rw [thermal] at same
    have noted : t = { s.answered p [⟨h.epoch, h.tag, .tempNoted y s.refresh.thermal⟩] with refresh := v.refresh } :=
      (State.evalThermal_same same _ note).trans (State.reported_note takes y)
    refine ⟨?_, ?_, by rw [refresh]; exact if_pos same, ?_⟩
    · rw [thermal, same]
      simp [noted]
    · simp [noted, State.answered]
    · refine SameBut.trans (t := t) (fun z hz => ?_) (t.settle_sameBut.mono (by decide))
      rw [noted]
      cases z <;> simp [Part.Agree, State.answered] at hz ⊢
  · rw [thermal] at changed ⊢
    let w := v.thermalChange v.thermalNext (.report p)
    have evaluated : t = (note w).reportThermal := State.evalThermal_changed changed _ note
    obtain ⟨sends, logs⟩ := (note w).reportThermal_settle
    rw [← evaluated] at sends logs
    refine ⟨sends.sent (State.reported_sent takes y _ _), fun q e other current => ?_, fun room => ?_, ?_⟩
    · have told : (s.links.look q).outbound ++ [⟨e, 0, .thermal v.thermalNext⟩] = (w.links.look q).outbound := by
        have outbound := v.told_outbound (.thermal v.thermalNext) ((s.answered_epoch p q []).trans current)
        rw [show w = _ from State.thermalChange_eq _ _ _]
        refine Eq.trans ?_ outbound.symm
        simp [v, State.reported, State.answered, Ne.symm other]
      exact Appends.sent told ((w.send_appends p _ trivial).trans sends)
    · have noted : Logs w (note w) := .of_fault rfl
      exact State.thermalChange_record (s := v) (c := .report p) room (noted.trans logs)
    · rw [refresh, ← State.timerAfterChange_eq]
      exact if_neg changed

/-- Settles O29: the level recorded, and the evaluation of the thermal state without a change and with one. -/
theorem thotChangesAreEvaluated : Obligations.ThotChangesAreEvaluated := by
  intro s c level line
  let v : State := { s with refresh := { s.refresh with thot := level } }
  let t := v.evalThermal .thot id
  have run : exec c s = .next t.settle := by
    obtain ⟨rfl, rfl⟩ | ⟨rfl, rfl⟩ := line <;> rfl
  have refresh : t.settle.refresh = { v.refresh with
      thermal := v.thermalNext
      timer := if v.thermalNext = s.refresh.thermal then s.refresh.timer else v.timerAfterChange v.thermalNext } :=
    v.evalThermal_refresh _ id fun _ => rfl
  have thermal : t.settle.refresh.thermal = v.thermalNext := by rw [refresh]
  refine ⟨t.settle, run, by rw [refresh], by rw [refresh],
    .of_evaluated (v := v) thermal rfl rfl (by rw [refresh]) (by rw [refresh]), fun same => ?_, fun changed => ?_⟩
  · rw [thermal] at same
    refine ⟨by rw [refresh]; exact if_pos same, SameBut.trans (t := t) (fun z hz => ?_) (t.settle_sameBut.mono (by decide))⟩
    rw [show t = v from State.evalThermal_same same _ id]
    cases z <;> simp [Part.Agree, v] at hz ⊢
  · rw [thermal] at changed ⊢
    let w := v.thermalChange v.thermalNext .thot
    have evaluated : t = w.reportThermal := State.evalThermal_changed changed _ id
    obtain ⟨sends, logs⟩ := w.reportThermal_settle
    rw [← evaluated] at sends logs
    refine ⟨fun q e current => ?_, fun room => ?_, ?_⟩
    · have told : (s.links.look q).outbound ++ [⟨e, 0, .thermal v.thermalNext⟩] = (w.links.look q).outbound := by
        rw [show w = _ from State.thermalChange_eq _ _ _]
        exact (v.told_outbound (.thermal v.thermalNext) current).symm
      exact sends.sent told
    · exact State.thermalChange_record (s := v) (c := .thot) room logs
    · rw [refresh, ← State.timerAfterChange_eq]
      exact if_neg changed

end Sys2Proof.Proofs
end

section
/-! PROOFS. The ends of the bring-up phases, of the calibrations, of the lock window, of the idle timer and of a wake (R90, R107, R110,
R112, R119 to R124, R131): O54 and O55. -/

namespace Sys2Proof.Machine

/-! ### ACTIVE (R90, R117, R119) -/

/-- The rank ACTIVE and told so, with its interval timer started, as the statements write it (R90, R117). -/
theorem State.activated_eq (s : State) : s.activated = { s.told (.rankState .active) with
    rank := { s.rank with state := .active }
    refresh := { s.refresh with
      timer := some (s.time + if s.refresh.thermal = .hot then s.prof.tRFI / 2 else s.prof.tRFI) } } := by
  rw [State.activated, State.become_eq, s.reload_eq]
  rfl

/-- ACTIVE is followed by a judgement of unanimity (R119, R128). -/
theorem State.becomeActive_eq (s : State) : s.becomeActive = s.activated.judgeUnanimity := by
  rw [State.activated_eq, State.becomeActive, State.become_eq, ← s.reload_eq]
  rfl

/-- With a master awake unanimity changes nothing (R128). -/
theorem State.becomeActive_awake {s : State} (awake : s.awakeMaster) : s.becomeActive = s.activated := by
  rw [State.becomeActive_eq, State.judgeUnanimity_awake _ id]
  · rfl
  · rw [State.awakeMaster, State.activated_rank]
    exact awake

/-! ### The ends of phases, calibrations and the lock window (R107, R110, R112, R119, R120) -/

theorem exec_modeLoadEnd {s : State} {d : Nat} {path : BringUpPath} (due : d ≤ s.time)
    (phase : s.rank.state = .bringUp path (.modeLoad (.settling d))) : exec .modeLoadEnd s = .next s.becomeActive.settle := by
  have reached : s.modeLoadDue = true := by simp [State.modeLoadDue, phase, State.reached, due]
  simp only [exec, execModeLoadEnd, reached, if_true]

theorem RankState.inLongCal_iff (x : RankState) : x.inLongCal = true ↔ ∃ path issued, x = .bringUp path (.longCal issued) := by
  unfold RankState.inLongCal
  split
  · simp
  · rename_i other
    simpa using other

theorem exec_longCalBusyEnd {s : State} {d : Nat} (due : d ≤ s.time) (busy : s.calibration.busy = .long d) :
    exec .longCalBusyEnd s =
      .next (if s.rank.state.inLongCal then s.notBusy.becomeActive.settle else s.notBusy.settle) := by
  have reached : s.longBusyDue = true := by simp [State.longBusyDue, busy, State.reached, due]
  simp only [exec, execLongCalBusyEnd, reached, if_true]

theorem exec_shortCalBusyEnd {s : State} {d : Nat} (due : d ≤ s.time) (busy : s.calibration.busy = .short d) :
    exec .shortCalBusyEnd s = .next s.notBusy.settle := by
  have reached : s.shortBusyDue = true := by simp [State.shortBusyDue, busy, State.reached, due]
  simp only [exec, execShortCalBusyEnd, reached, if_true]

theorem exec_lockEnd {s : State} {d : Nat} (due : d ≤ s.time) (lock : s.calibration.lock = some d) :
    exec .lockEnd s = .next (State.settle { s with calibration := { s.calibration with lock := none } }) := by
  have reached : s.lockDue = true := by simp [State.lockDue, lock, State.reached, due]
  simp only [exec, execLockEnd, reached, if_true]

/-! ### The wake end (R122, R131) -/

theorem exec_wakeEnd {s : State} {d : Nat} (due : d ≤ s.time) (state : s.rank.state = .waking d) :
    exec .wakeEnd s = .next s.endWake := by
  have reached : s.wakeDue = true := by simp [State.wakeDue, state, State.reached, due]
  simp only [exec, execWakeEnd, reached, if_true]

/-- Becoming ACTIVE neither sets nor clears a STOP that is pending (R122). -/
theorem State.becomeActive_stopPending (s : State) : s.becomeActive.rank.stopPending = s.rank.stopPending := by
  rw [s.becomeActive_steady.stopPending, s.activated_rank]

theorem State.endWake_eq (s : State) :
    s.endWake = (if s.rank.stopPending then s.becomeActive.carryOutStop else s.becomeActive).settle := by
  rw [State.endWake, State.becomeActive_stopPending]

/-- A judgement that finds no unanimity sends nothing (R83, R128). -/
theorem State.judgeUnanimity_links {s : State} (lost : s.unanimous = false) : s.judgeUnanimity.links = s.links := by
  obtain e | ⟨-, -, e⟩ | ⟨is, -⟩ | ⟨is, -⟩ := s.judgeUnanimity_cases id
  · rw [e]
    rfl
  · rw [e]
    simp
  · exact nomatch lost.symm.trans is
  · exact nomatch lost.symm.trans is

/-- A wake that ends with a STOP pending tells ACTIVE, and STOPPING next, as no sleep entry begins in between (R117, R122, R128). -/
theorem State.wakeStop_sent {s : State} (stop : s.rank.stopPending = true) {p : Port} {e : Byte} (current : s.epoch? p = some e) :
    Sent s s.becomeActive.carryOutStop p [⟨e, 0, .rankState .active⟩, ⟨e, 0, .rankState .stopping⟩] := by
  have lost : s.activated.unanimous = false := by simp [State.unanimous, s.activated_rank, stop]
  have links : s.becomeActive.links = (s.told (.rankState .active)).links := by
    rw [State.becomeActive_eq, State.judgeUnanimity_links lost, State.activated_eq]
  have epoch : s.becomeActive.epoch? p = some e := by
    rw [State.epoch?, links]
    exact (s.told_epoch (.rankState .active) p).trans current
  have sent := s.becomeActive.carryOutStop_sent epoch
  rw [Sent, links, s.told_outbound _ current, List.append_assoc] at sent
  exact sent

/-- What stands of a STOP carried out at the end of the happening (R59, R121, R124). -/
theorem State.carryOutStop_settle (s : State) :
    (∃ i, s.carryOutStop.settle.rank = { s.rank with state := .stopping, stopPending := false, idle := i }) ∧
      s.carryOutStop.settle.drain.purposes.stop = true ∧ ∀ p, (s.carryOutStop.settle.queues.look p).entries = [] := by
  refine ⟨?_, by simp [s.carryOutStop_purposes], fun p => ?_⟩
  · obtain ⟨i, rank⟩ := s.carryOutStop.settle_rank
    exact ⟨i, by rw [rank, s.carryOutStop_rank]⟩
  · obtain ⟨reason, entries⟩ := s.carryOutStop.settle_entries p
    rw [entries, s.carryOutStop_entries, List.map_nil]

theorem State.becomeActive_sameBut (s : State) :
    SameBut [.links, .queues, .banks, .drain, .mover, .refresh, .rank, .fault] s s.becomeActive := by
  intro x hx
  cases x <;> simp [Part.Agree] at hx ⊢

theorem State.carryOutStop_sameBut (s : State) :
    SameBut [.links, .queues, .banks, .drain, .mover, .rank, .fault] s s.carryOutStop := by
  intro x hx
  cases x <;> simp [Part.Agree] at hx ⊢

end Sys2Proof.Machine

namespace Sys2Proof.Proofs

open Sys2Proof Sys2Proof.Machine

/-- Settles O54: each end by the test of its happening; ACTIVE is `State.activated` with a master awake. -/
theorem phasesEnd : Obligations.PhasesEnd := by
  intro s d due active moved
  have reached : s.reached d = true := decide_eq_true due
  refine ⟨fun path phase => ?_, fun phase => ?_, fun phase => ?_, fun path phase => ?_, fun path phase awake => ?_,
    fun busy => ⟨fun path issued phase awake => ?_, fun other => ?_⟩, fun busy => ?_, fun lock => ?_⟩
  · simp [exec, execResetHoldEnd, State.resetHoldDue, phase, reached, State.setRank, moved]
  · simp [exec, execClockSettleEnd, State.clockSettleDue, phase, reached, State.setRank, moved, BringUpPath.afterSettle]
  · simp [exec, execClockSettleEnd, State.clockSettleDue, phase, reached, State.setRank, moved, BringUpPath.afterSettle]
  · simp [exec, execExitWaitEnd, State.exitWaitDue, phase, reached, State.setRank, moved]
  · refine ⟨_, exec_modeLoadEnd due phase, ?_⟩
    rw [State.settle_bare, State.becomeActive_awake awake, State.activated_eq]
  · refine ⟨_, exec_longCalBusyEnd due busy, ?_⟩
    have bringUp := (RankState.inLongCal_iff s.rank.state).mpr ⟨path, issued, phase⟩
    rw [if_pos bringUp, State.settle_bare, State.becomeActive_awake (s := s.notBusy) awake, State.activated_eq]
    rfl
  · refine ⟨_, exec_longCalBusyEnd due busy, ?_⟩
    have elsewhere : ¬s.rank.state.inLongCal = true := fun is => by
      obtain ⟨path, issued, phase⟩ := (RankState.inLongCal_iff s.rank.state).mp is
      exact other path issued phase
    rw [if_neg elsewhere, State.settle_bare]
    rfl
  · refine ⟨_, exec_shortCalBusyEnd due busy, ?_⟩
    rw [State.settle_bare]
    rfl
  · exact ⟨_, exec_lockEnd due lock, State.settle_bare _⟩

/-- Settles O55: a wake ends in ACTIVE (`State.activated`), where a pending STOP is carried out as in O51. -/
theorem idleResidencyAndWakeEnd : Obligations.IdleResidencyAndWakeEnd := by
  intro s d due
  have reached : s.reached d = true := decide_eq_true due
  refine ⟨fun running => ?_, fun wanted state => ?_, fun state => ⟨fun unstopped awake => ?_, fun stop => ?_⟩⟩
  · simp [exec, execIdleTimerExpiry, State.idleDue, running, reached]
  · simp [exec, execResidencyEnd, State.residencyDue, state, reached, State.setRank]
  · refine ⟨_, exec_wakeEnd due state, ?_⟩
    rw [State.endWake_eq, unstopped, State.settle_bare]
    simp only [Bool.false_eq_true, if_false]
    rw [State.becomeActive_awake awake, State.activated_eq]
  · have run : exec .wakeEnd s = .next s.becomeActive.carryOutStop.settle := by
      rw [exec_wakeEnd due state, State.endWake_eq, if_pos stop]
    obtain ⟨⟨i, rank⟩, purposes, entries⟩ := s.becomeActive.carryOutStop_settle
    have links : s.becomeActive.carryOutStop.settle.links = s.becomeActive.carryOutStop.links := by simp
    refine ⟨_, run, by rw [rank], by rw [rank], purposes, entries, fun p e current => ?_, ?_⟩
    · rw [Sent, links]
      exact State.wakeStop_sent stop current
    · exact (s.becomeActive_sameBut.trans (s.becomeActive.carryOutStop_sameBut.mono (by decide))).trans
        ((State.settle_sameBut _).mono (by decide))

end Sys2Proof.Proofs
end

section
/-! PROOFS. What keeps the invariants of the Fault Unit, the Profile Store and the Refresh Unit: the operations that the commands share
(R89, R99, R100, R156, R162, R165, R166, R168). -/

namespace Sys2Proof.Machine

/-! ### The Fault Unit (R165 to R168) -/

theorem FaultUnit.alertDue_iff (f : FaultUnit) : f.alertDue = true ↔ ∃ r ∈ f.list, f.mask.getLsbD r.kind.bit = true :=
  List.any_eq_true

/-- A record handed over is appended below 16 records, and else dropped and counted up to 255 (R165, R166). -/
theorem FaultUnit.Inv.hand {f : FaultUnit} (h : f.Inv) (r : FaultRecord) : (f.hand r).Inv := by
  obtain ⟨length, full, empty, counted, alert⟩ := h
  unfold FaultUnit.hand
  split
  · rename_i room
    have clear : f.overflow = false := by
      cases overflow : f.overflow with
      | false => rfl
      | true => exact absurd (full overflow) room.ne
    refine ⟨?_, fun is => ?_, empty, counted, FaultUnit.alertDue_iff _⟩
    · simpa [FaultUnit.judge] using room
    · exact nomatch clear.symm.trans is
  · rename_i none
    exact ⟨length, fun _ => Nat.le_antisymm length (not_lt.mp none), nofun, Nat.min_le_left _ _, alert⟩

/-- A pop takes the head, and the marker of dropped records takes its place at the end (R166, R167). -/
theorem FaultUnit.Inv.pop {f : FaultUnit} (h : f.Inv) (some : f.list.isEmpty = false) (now : BitVec 48) : (f.pop now).Inv := by
  obtain ⟨length, -⟩ := h
  have head : 0 < f.list.length := List.length_pos_iff.mpr (by simpa using some)
  have marker : (f.marker now).length ≤ 1 := by
    unfold FaultUnit.marker
    split <;> simp
  refine ⟨?_, nofun, fun _ => rfl, Nat.zero_le _, FaultUnit.alertDue_iff _⟩
  simp only [FaultUnit.pop, FaultUnit.judge, List.length_append, List.length_tail]
  omega

/-- The enables replaced, and ALERT judged (R168). -/
theorem FaultUnit.Inv.remask {f : FaultUnit} (h : f.Inv) (mask : BitVec 9) : FaultUnit.Inv (FaultUnit.judge { f with mask := mask }) := by
  obtain ⟨length, full, empty, counted, -⟩ := h
  exact ⟨length, full, empty, counted, FaultUnit.alertDue_iff _⟩

/-! ### The three invariants together -/

/-- The Fault Unit, the Profile Store and the Refresh Unit meet their invariants. -/
structure State.UnitsSound (s : State) : Prop where
  fault : s.fault.Inv
  profile : s.ProfileInv
  refresh : s.RefreshInv

namespace State.UnitsSound

/-- What leaves the profile, the balance, the count and the thermal table, and keeps the invariant of the Fault Unit. -/
theorem of_parts {s t : State} (h : s.UnitsSound) (fault : t.fault.Inv) (profile : t.profile = s.profile)
    (refresh : t.refresh.balance = s.refresh.balance ∧ t.refresh.count = s.refresh.count ∧ t.refresh.table = s.refresh.table) :
    t.UnitsSound := by
  obtain ⟨balance, count, table⟩ := refresh
  refine ⟨fault, ?_, ?_⟩
  · rw [State.ProfileInv, profile]
    exact h.profile
  · rw [State.RefreshInv, State.prof, profile, balance, count, table]
    exact h.refresh

/-- What leaves the three units. -/
theorem same {s t : State} (h : s.UnitsSound) (units : t.fault = s.fault ∧ t.profile = s.profile ∧ t.refresh = s.refresh) :
    t.UnitsSound := by
  obtain ⟨fault, profile, refresh⟩ := units
  exact h.of_parts (fault ▸ h.fault) profile (by rw [refresh]; exact ⟨rfl, rfl, rfl⟩)

theorem ite {s t : State} {P : Prop} [Decidable P] (h : s.UnitsSound) (g : t.UnitsSound) : (if P then s else t).UnitsSound := by
  split
  · exact h
  · exact g

/-- A new balance and count within their bounds (R89, R99). -/
theorem rebalance {s : State} (h : s.UnitsSound) {balance : Int} {count : Nat} (low : -(s.prof.pim : Int) ≤ balance)
    (high : balance ≤ s.prof.ppm) (below : count < s.prof.cpr) :
    State.UnitsSound { s with refresh := { s.refresh with balance := balance, count := count } } := by
  obtain ⟨-, -, -, table⟩ := h.refresh
  exact ⟨h.fault, h.profile, low, high, below, table⟩

/-- A balance of 0 lies within its bounds (R90). -/
theorem zeroBalance {s : State} (h : s.UnitsSound) : State.UnitsSound { s with refresh := { s.refresh with balance := 0 } } := by
  obtain ⟨-, -, below, -⟩ := h.refresh
  exact h.rebalance (by omega) (by omega) below

/-- A report recorded in the thermal table, or the record of a port removed (R100, R143). -/
theorem record {s : State} (h : s.UnitsSound) (p : Port) {y : Option Int} (within : ∀ x, y = some x → -40 ≤ x ∧ x ≤ 150) :
    State.UnitsSound { s with refresh := { s.refresh with table := s.refresh.table.put p y } } := by
  obtain ⟨low, high, below, table⟩ := h.refresh
  refine ⟨h.fault, h.profile, low, high, below, fun q x found => ?_⟩
  change (s.refresh.table.put p y).look q = some x at found
  rw [Table.look_put] at found
  split at found
  · exact within x found
  · exact table q x found

/-- Counters of the ports are no part of the invariants (R169). -/
theorem modPortCounters {s : State} (h : s.UnitsSound) (p : Port) (f : PortCounters → PortCounters) :
    (s.modPortCounters p f).UnitsSound := ⟨h.fault, h.profile, h.refresh⟩

/-- Counters of the rank are no part of the invariants (R169). -/
theorem modRankCounters {s : State} (h : s.UnitsSound) (f : RankCounters → RankCounters) : (s.modRankCounters f).UnitsSound :=
  ⟨h.fault, h.profile, h.refresh⟩

theorem handFault {s : State} (h : s.UnitsSound) (k : FaultKind) (p : Option Port) (b : Option Bank) (d : FaultDetail) :
    (s.handFault k p b d).UnitsSound := ⟨h.fault.hand _, h.profile, h.refresh⟩

theorem refuse {s : State} (h : s.UnitsSound) (p : Port) (tag : Byte) (r : RefusalReason) : (s.refuse p tag r).UnitsSound :=
  ⟨h.fault, h.profile, h.refresh⟩

/-! ### Evaluation, readiness, revocation (R17, R48, R52, R54, R124) -/

theorem evaluated {b : Bank} {s t : State} (h : s.UnitsSound) (e : Evaluated b s t) : t.UnitsSound := by
  have profile : t.profile = s.profile := e.rest .profile (by decide)
  have refresh : t.refresh = s.refresh := e.rest .refresh (by decide)
  refine h.of_parts ?_ profile (by rw [refresh]; exact ⟨rfl, rfl, rfl⟩)
  rw [e.fault]
  exact h.fault

theorem evalFront {s : State} (h : s.UnitsSound) (p : Port) (b : Bank) : (s.evalFront p b).UnitsSound :=
  h.evaluated (s.evalFront_evaluated p b)

theorem reevaluate {s : State} (h : s.UnitsSound) (b : Bank) : (s.reevaluate b).UnitsSound :=
  h.evaluated (s.reevaluate_evaluated b)

theorem judgeIdle {s : State} (h : s.UnitsSound) : s.judgeIdle.UnitsSound := h.same (by simp)

theorem settle {s : State} (h : s.UnitsSound) : s.settle.UnitsSound := h.same (by simp)

theorem wantExit {s : State} (h : s.UnitsSound) : s.wantExit.UnitsSound := h.same (by simp)

theorem wantWake {s : State} (h : s.UnitsSound) : s.wantWake.UnitsSound := h.same (by simp)

theorem judgeHotExit {s : State} (h : s.UnitsSound) : s.judgeHotExit.UnitsSound := h.same (by simp)

theorem completeDrain {s : State} (h : s.UnitsSound) : s.completeDrain.UnitsSound := h.same (by simp)

theorem setDrain {s : State} (h : s.UnitsSound) (d : Drain) : (s.setDrain d).UnitsSound := h.same (by simp)

theorem revoke {s : State} (h : s.UnitsSound) (b : Bank) (reason : RevokeReason) : (s.revoke b reason).UnitsSound := by
  unfold State.revoke
  split
  · exact h
  · exact ⟨h.fault, h.profile, h.refresh⟩
  · exact .ite (h.same (by simp)) h

theorem revokesOwned {s : State} (h : s.UnitsSound) (o : Owner) (reason : RevokeReason) (l : List Bank) :
    (l.foldl (State.revokeOwned o reason) s).UnitsSound :=
  foldl_holds _ _ (fun _ b g => .ite ((g.revoke b reason).reevaluate b) g) l s h

/-! ### The drain (R75 to R83) -/

theorem graceRevoke {s : State} (h : s.UnitsSound) (reason : RevokeReason) (b : Bank) : (s.graceRevoke reason b).UnitsSound := by
  unfold State.graceRevoke
  split
  · exact h
  · exact ((h.revoke b reason).handFault _ _ _ _).reevaluate b
  · exact h

theorem endGrace {s : State} (h : s.UnitsSound) : s.endGrace.UnitsSound := by
  unfold State.endGrace
  extract_lets v
  have revoked : v.UnitsSound := foldl_holds _ _ (fun _ b g => g.graceRevoke s.drain.reason b) allBanks s h
  exact (revoked.setDrain _).completeDrain

theorem beginDrain {s : State} (h : s.UnitsSound) (u : Purpose) (urgent : Bool) : (s.beginDrain u urgent).UnitsSound :=
  .ite (h.setDrain _).endGrace (h.setDrain _).completeDrain

theorem sendDrain {s : State} (h : s.UnitsSound) (old : State) (u : Purpose) (urgent : Bool) : (s.sendDrain old u urgent).UnitsSound :=
  h.same (by simp)

theorem addPurpose {s : State} (h : s.UnitsSound) (u : Purpose) (urgent : Bool) : (s.addPurpose u urgent).UnitsSound := by
  unfold State.addPurpose
  split
  · exact (h.beginDrain u urgent).sendDrain s u urgent
  · exact .ite (h.setDrain _).endGrace (h.setDrain _)
  · exact h.setDrain _
  · exact h.setDrain _

theorem dropPurpose {s : State} (h : s.UnitsSound) (u : Purpose) : (s.dropPurpose u).UnitsSound := h.setDrain _

/-! ### Unanimity and the thermal state (R102, R103, R128) -/

/-- A judgement of unanimity, with the happening's other effects in between (R76, R128). -/
theorem judgeUnanimity_others {s : State} (h : s.UnitsSound) {others : State → State} (ho : ∀ v, v.UnitsSound → (others v).UnitsSound) :
    (s.judgeUnanimity others).UnitsSound := by
  have begun : (s.setBegun true).UnitsSound := ⟨h.fault, h.profile, h.refresh⟩
  obtain e | ⟨-, -, e⟩ | ⟨-, -, -, e⟩ | ⟨-, -, -, e⟩ := s.judgeUnanimity_cases others <;> rw [e]
  · exact ho s h
  · exact ho _ (h.same (by simp))
  · exact ho _ (begun.addPurpose .sleep false).wantExit.judgeIdle
  · exact (ho _ (begun.beginDrain .sleep false).wantExit.judgeIdle).sendDrain _ _ _

theorem judgeUnanimity {s : State} (h : s.UnitsSound) : s.judgeUnanimity.UnitsSound := h.judgeUnanimity_others fun _ g => g

theorem judgeRemoval {s : State} (h : s.UnitsSound) (old : State) : (s.judgeRemoval old).UnitsSound := .ite h h.judgeUnanimity

theorem afterRequest {s : State} (h : s.UnitsSound) (b : Bank) (changed : Bool) : (s.afterRequest b changed).UnitsSound :=
  (ite (h.reevaluate b) h).judgeUnanimity.settle

theorem reportThermal {s : State} (h : s.UnitsSound) : s.reportThermal.UnitsSound :=
  (ite h.wantWake h).judgeHotExit.judgeUnanimity

theorem thermalChange {s : State} (h : s.UnitsSound) (t : Thermal) (c : ThermalCause) : (s.thermalChange t c).UnitsSound := by
  rw [State.thermalChange_eq]
  exact ⟨h.fault.hand _, h.profile, h.refresh⟩

theorem evalThermal {s : State} (h : s.UnitsSound) (c : ThermalCause) {reply : State → State}
    (hr : ∀ v, v.UnitsSound → (reply v).UnitsSound) : (s.evalThermal c reply).UnitsSound :=
  .ite (hr s h) (hr _ (h.thermalChange _ c)).reportThermal

theorem takeThot {s : State} (h : s.UnitsSound) (level : Bool) : (s.takeThot level).UnitsSound :=
  evalThermal (s := { s with refresh := { s.refresh with thot := level } }) ⟨h.fault, h.profile, h.refresh⟩ .thot fun _ g => g

/-! ### The rank's states (R108, R117, R119, R121, R123) -/

theorem become {s : State} (h : s.UnitsSound) (r : RankState) : (s.become r).UnitsSound := h.same (by simp)

theorem becomeActive {s : State} (h : s.UnitsSound) : s.becomeActive.UnitsSound := by
  have active : s.activated.UnitsSound := by
    rw [State.activated_eq]
    exact ⟨h.fault, h.profile, h.refresh⟩
  rw [State.becomeActive_eq]
  exact active.judgeUnanimity

theorem refuseQueues {s : State} (h : s.UnitsSound) : s.refuseQueues.UnitsSound := by
  have one (p : Port) (v : State) (e : Entry) (g : v.UnitsSound) : (v.refuseStopped p e).UnitsSound :=
    (g.refuse p e.tag .rankStopping).same (by simp [State.refuseStopped])
  have queue (v : State) (p : Port) (g : v.UnitsSound) : (v.refuseQueue p).UnitsSound :=
    (foldl_holds _ _ (one p) (v.queues.look p).entries v g).same (by simp [State.refuseQueue])
  exact foldl_holds _ _ queue allPorts s h

theorem carryOutStop {s : State} (h : s.UnitsSound) : s.carryOutStop.UnitsSound := by
  have stopping : s.toStopping.UnitsSound := ⟨h.fault, h.profile, h.refresh⟩
  have stopped : s.stopped.UnitsSound := stopping.refuseQueues.same (by simp only [State.stopped, and_self])
  rw [State.carryOutStop_eq]
  exact stopped.addPurpose .stop false

theorem enterOffline {s : State} (h : s.UnitsSound) (retained : Bool) : (s.enterOffline retained).UnitsSound :=
  h.of_parts (by simpa using h.fault) (by simp) (by simp [State.enterOffline, State.votesAwake])

theorem shortCalibrationDue {s : State} (h : s.UnitsSound) : s.shortCalibrationDue.UnitsSound := by
  let v : State := { s with calibration := { s.calibration with shortDue := true } }
  have due : v.UnitsSound := ⟨h.fault, h.profile, h.refresh⟩
  unfold State.shortCalibrationDue
  exact .ite h (due.addPurpose .calibrate false)

/-! ### Sessions and inbound frames (R135 to R143) -/

theorem endSession {s : State} (h : s.UnitsSound) (p : Port) (e : Byte) (c : SessionEnd) : (s.endSession p e c).UnitsSound := by
  unfold State.endSession
  extract_lets o u v w x
  have first : v.UnitsSound := h.same (by simp [v, u, State.discardQueue])
  have forgotten : (v.forget o).UnitsSound := first.same ⟨rfl, rfl, rfl⟩
  have revoked : w.UnitsSound := forgotten.revokesOwned o c.reason allBanks
  have recorded : x.UnitsSound := by
    cases c
    · exact revoked.handFault _ _ _ _
    · exact revoked.handFault _ _ _ _
    · exact revoked
  have silent : (x.setVote p none).UnitsSound := recorded.same ⟨rfl, rfl, rfl⟩
  exact silent.judgeUnanimity_others fun v g => (g.record p (y := none) nofun).evalThermal (.sessionEnd p) fun _ g => g

theorem openSession {s : State} (h : s.UnitsSound) (p : Port) (tag : Byte) : (s.openSession p tag).UnitsSound := by
  unfold State.openSession
  extract_lets e u v w x
  have opened : x.UnitsSound := h.same (by simp [x, w, v, u, State.setVote])
  exact opened.judgeUnanimity.wantWake

theorem discardFrame {s : State} (h : s.UnitsSound) (p : Port) (d : FaultDetail) : (s.discardFrame p d).UnitsSound :=
  (h.modPortCounters p _).handFault _ _ _ _

theorem outOfSequence {s : State} (h : s.UnitsSound) (p : Port) : (s.outOfSequence p).UnitsSound :=
  .ite (h.discardFrame p .sequence) ((h.discardFrame p .sequence).same (by simp))

/-- A sound frame: discarded, refused or taken by its block (R136, R137). -/
theorem receive {s : State} (h : s.UnitsSound) (p : Port) (hd : Header) (isJoin : Bool) {route : State → State}
    (hr : ∀ v, v.UnitsSound → (route v).UnitsSound) : (s.receive p hd isJoin route).UnitsSound := by
  have counted : (s.inSequence p).UnitsSound := h.same (by simp)
  obtain e | e | ⟨r, e⟩ | e := s.receive_cases p hd isJoin route <;> rw [e]
  · exact h
  · exact h.outOfSequence p
  · exact counted.refuse p hd.tag r
  · exact hr _ counted

/-! ### Requests (R13, R44, R45, R57, R100, R127, R139 to R141) -/

theorem accept {s : State} (h : s.UnitsSound) (p : Port) (tag : Byte) (b : Bank) (a : Arrival) (slot : Fin 8) :
    (s.accept p tag b a slot).UnitsSound := by
  unfold State.accept
  extract_lets front u v w x
  have held : v.UnitsSound := h.same (by simp [v, u])
  have voted : (w.setVote p (some .awake)).UnitsSound := (held.modPortCounters p _).same ⟨rfl, rfl, rfl⟩
  have reported : x.UnitsSound := voted.judgeIdle.judgeUnanimity.wantExit.wantWake
  exact .ite (reported.evalFront p b) reported

theorem arrive {s : State} (h : s.UnitsSound) (p : Port) (tag bank : Byte) (a : Arrival) : (s.arrive p tag bank a).UnitsSound := by
  unfold State.arrive
  split
  · exact h.refuse p tag _
  · exact h.accept p tag _ a _

theorem queued {s : State} (h : s.UnitsSound) (p : Port) (hd : Header) (bank : Byte) (a : Arrival) : (s.queued p hd bank a).UnitsSound :=
  h.receive p hd false fun _ g => (g.arrive p hd.tag bank a).settle

theorem takeJoin {s : State} (h : s.UnitsSound) (p : Port) (tag revision : Byte) : (s.takeJoin p tag revision).UnitsSound := by
  unfold State.takeJoin
  split
  · exact h.same (by simp)
  · split
    · exact (h.openSession p tag).settle
    · exact ((h.endSession p _ .rejoin).openSession p tag).settle

theorem takeLeave {s : State} (h : s.UnitsSound) (p : Port) (tag : Byte) : (s.takeLeave p tag).UnitsSound := by
  unfold State.takeLeave
  split <;> exact h.same (by simp)

theorem takeExtend {s : State} (h : s.UnitsSound) (p : Port) (tag bank : Byte) : (s.takeExtend p tag bank).UnitsSound := by
  unfold State.takeExtend
  split <;> exact h.same (by simp)

theorem takeCancel {s : State} (h : s.UnitsSound) (p : Port) (tag target : Byte) : (s.takeCancel p tag target).UnitsSound := by
  unfold State.takeCancel
  split
  · exact h.same (by simp)
  · rename_i e _
    have removed : (((s.removeTag p target).reply p target .cancelled).freeEntrySlot p e).UnitsSound := h.same (by simp)
    exact (ite (removed.evalFront p e.bank) removed).judgeUnanimity.settle

theorem takeSleepVote {s : State} (h : s.UnitsSound) (p : Port) (tag : Byte) : (s.takeSleepVote p tag).UnitsSound := by
  have voted : ((s.setVote p (some .voted)).reply p tag .voteNoted).UnitsSound := h.same ⟨rfl, rfl, rfl⟩
  exact (ite voted.judgeHotExit.judgeUnanimity voted.judgeHotExit).settle

theorem takeWake {s : State} (h : s.UnitsSound) (p : Port) (tag : Byte) : (s.takeWake p tag).UnitsSound := by
  have awake : ((s.setVote p (some .awake)).reply p tag .wakeNoted).UnitsSound := h.same ⟨rfl, rfl, rfl⟩
  exact (ite awake.judgeHotExit.judgeUnanimity awake).wantWake.settle

/-- A temperature is recorded within −40 to 150 (R100). -/
theorem takeReport {s : State} (h : s.UnitsSound) (p : Port) (tag : Byte) (t : BitVec 16) : (s.takeReport p tag t).UnitsSound := by
  have within (x : Int) (recorded : some (clampTemperature t) = some x) : -40 ≤ x ∧ x ≤ 150 := by
    obtain rfl := Option.some.inj recorded
    unfold clampTemperature
    omega
  exact ((h.record p within).evalThermal (.report p) fun _ g => g.same (by simp)).settle

end State.UnitsSound

end Sys2Proof.Machine
end


section
/-! PROOFS. Every step keeps the invariants of the Fault Unit, the Profile Store and the Refresh Unit (R89, R99, R100, R156, R157, R162,
R165, R166, R168): O11. -/

namespace Sys2Proof.Machine

/-! ### The checks of the profile (R160 to R162) -/

theorem Profile.firstFailure_eq_none {f : Profile} : f.firstFailure = none ↔ ∀ ok ∈ f.checks, ok = true := by
  simp [Profile.firstFailure, List.findIdx?_eq_none_iff]

/-- A profile that passes has a CPR of 16 at least, so a count of 0 lies below it (check 24). -/
theorem Profile.cpr_pos {f : Profile} (passes : f.firstFailure = none) : 0 < f.cpr := by
  have check : within 16 256 f.cpr = true :=
    Profile.firstFailure_eq_none.mp passes _ (by simp [Profile.checks, Profile.rangeChecks])
  simp only [within, Bool.and_eq_true, decide_eq_true_eq] at check
  omega

/-- A rejection names one of the 47 checks (R160). -/
theorem Profile.firstFailure_range {f : Profile} {n : Nat} (fails : f.firstFailure = some n) : 1 ≤ n ∧ n ≤ 47 := by
  obtain ⟨i, found, rfl⟩ := Option.map_eq_some_iff.mp fails
  have number : i < f.checks.length := (List.findIdx?_eq_some_iff_getElem.mp found).1
  have length : f.checks.length = 47 := rfl
  omega

/-! ### Answers -/

/-- An answer to a state whose units meet their invariants. -/
def Sound (o : Host.Outcome State Fault Refusal) : Prop := ∀ t, o = .next t → t.UnitsSound

namespace State.UnitsSound

theorem next {t : State} (h : t.UnitsSound) : Sound (.next t) := by
  rintro _ ⟨⟩
  exact h

/-- A happening that takes place only when it is due (assumption 2). -/
theorem due {s t : State} (h : s.UnitsSound) {P : Prop} [Decidable P] (ht : P → t.UnitsSound) : Sound (if P then .next t else .next s) := by
  split
  · exact (ht ‹_›).next
  · exact h.next

/-! ### Resets (R115, R170) -/

theorem powerOn (s : State) (lanes : Table Bool 4) : (s.powerOn lanes).UnitsSound :=
  ⟨FaultUnit.reset_inv, State.reset_profileInv, State.reset_refreshInv⟩

/-- A soft reset keeps the profile, and a balance and a count of 0 lie within any bounds (R90, R99, R157). -/
theorem cleared {s : State} (h : s.UnitsSound) : s.cleared.UnitsSound := by
  obtain ⟨-, -, below, -⟩ := h.refresh
  obtain ⟨-, -, -, table⟩ := State.reset_refreshInv
  have low : -(s.prof.pim : Int) ≤ 0 := by omega
  exact ⟨FaultUnit.reset_inv, h.profile, low, Int.natCast_nonneg _, Nat.zero_lt_of_lt below, table⟩

theorem execPowerOnReset (lanes : Table Bool 4) (thot : Bool) (s : State) : Sound (execPowerOnReset lanes thot s) :=
  (ite ((powerOn s lanes).takeThot true) (powerOn s lanes)).next

theorem execSoftReset {s : State} (h : s.UnitsSound) : Sound (execSoftReset s) :=
  (ite (h.cleared.takeThot true) h.cleared).next

/-! ### Links and sessions (R134, R141, R142, R145) -/

theorem execLinkDown {s : State} (h : s.UnitsSound) (p : Port) : Sound (execLinkDown p s) := by
  unfold Machine.execLinkDown
  split
  · exact h.next
  · exact (settle (h.same (by simp))).next
  · exact (h.endSession p _ .lost).settle.next
  · exact (h.endSession p _ .lost).settle.next

theorem execHandedToLink {s : State} (h : s.UnitsSound) (p : Port) : Sound (execHandedToLink p s) := by
  unfold Machine.execHandedToLink
  split
  · rename_i f _ _ _
    have handed : (s.handHead p f).UnitsSound := by
      unfold State.handHead
      split <;> exact h.same (by simp)
    exact handed.settle.next
  all_goals exact h.next

theorem execReadyToLeave {s : State} (h : s.UnitsSound) (p : Port) : Sound (execReadyToLeave p s) := by
  unfold Machine.execReadyToLeave
  split
  · rename_i e tag _
    have asked : (s.modLink p fun l => { l with session := .leaving e tag true false }).UnitsSound := h.same (by simp)
    have revoked := asked.revokesOwned ⟨p, e⟩ .portLeft allBanks
    exact (judgeRemoval (revoked.same (by simp)) s).settle.next
  · exact h.next

theorem execLeaveComplete {s : State} (h : s.UnitsSound) (p : Port) : Sound (execLeaveComplete p s) := by
  unfold Machine.execLeaveComplete
  split
  · rename_i e _ _
    have left : (s.endSession p e .left).UnitsSound := h.endSession p e .left
    exact (settle (left.same (by simp))).next
  · exact h.next

theorem execBadKindFrame {s : State} (h : s.UnitsSound) (p : Port) (hd : Header) (kind : Byte) (length : Nat) :
    Sound (execBadKindFrame p hd kind length s) := by
  unfold Machine.execBadKindFrame
  split
  · exact h.next
  · exact (h.receive p hd _ fun _ g => g.refuse p hd.tag .badKind).next

/-! ### Leases and the refresh interval (R10, R15, R56, R91) -/

theorem execLeaseWarning {s : State} (h : s.UnitsSound) (b : Bank) : Sound (execLeaseWarning b s) := by
  unfold Machine.execLeaseWarning
  split
  · exact h.due fun _ => h.same (by simp)
  all_goals exact h.next

theorem execLeaseExpiry {s : State} (h : s.UnitsSound) (b : Bank) : Sound (execLeaseExpiry b s) := by
  unfold Machine.execLeaseExpiry
  split
  · exact h.due fun _ => ((((h.revoke b .expired).handFault _ _ _ _).reevaluate b).judgeRemoval s).settle
  all_goals exact h.next

/-- The balance goes up where it is below PPM, and else a missed refresh is counted and recorded (R91). -/
theorem owe {s : State} (h : s.UnitsSound) : s.owe.UnitsSound := by
  obtain ⟨low, -, below, -⟩ := h.refresh
  unfold State.owe
  split
  · rename_i room
    exact h.rebalance (by omega) (by omega) below
  · exact (h.modRankCounters _).handFault _ _ _ _

theorem expireInterval {s : State} (h : s.UnitsSound) : s.expireInterval.UnitsSound := by
  unfold State.expireInterval
  extract_lets marked u _ v
  have owed : v.UnitsSound := ⟨h.owe.fault, h.owe.profile, h.owe.refresh⟩
  have asked : (v.askRefresh marked).UnitsSound := by
    unfold State.askRefresh
    extract_lets w wanted x
    have counted : w.UnitsSound := .ite (owed.modRankCounters _) owed
    have added : x.UnitsSound := .ite (counted.addPurpose .refresh marked) counted
    exact .ite added.wantExit added
  exact (asked.judgeRemoval s).settle

theorem execEntryAged {s : State} (h : s.UnitsSound) (p : Port) (tag : Byte) : Sound (execEntryAged p tag s) := by
  unfold Machine.execEntryAged
  split
  · exact h.next
  · exact h.due fun _ => h.same (by simp)

/-! ### Bursts (R33, R150, R152) -/

theorem execWriteBurstStart {s : State} (h : s.UnitsSound) : Sound (execWriteBurstStart s) := by
  unfold Machine.execWriteBurstStart
  split
  · exact h.next
  · exact h.due fun _ => h.same (by simp)

theorem execReadBurstStart {s : State} (h : s.UnitsSound) : Sound (execReadBurstStart s) := by
  unfold Machine.execReadBurstStart
  split
  · exact h.next
  · exact h.due fun _ => h.same (by simp)

theorem finishWrite {s : State} (h : s.UnitsSound) (b : Burst) : (s.finishWrite b).UnitsSound := by
  refine h.same ?_
  simp only [State.finishWrite]
  repeat' split
  all_goals simp

theorem finishRead {s : State} (h : s.UnitsSound) (b : Burst) (data : Block) : (s.finishRead b data).UnitsSound := by
  refine h.same ?_
  simp only [State.finishRead]
  repeat' split
  all_goals simp

theorem execWriteDataEnd {s : State} (h : s.UnitsSound) : Sound (execWriteDataEnd s) := by
  unfold Machine.execWriteDataEnd
  split
  · exact h.next
  · exact h.due fun _ => (h.finishWrite _).settle

theorem execReadDataArrival {s : State} (h : s.UnitsSound) (data : Block) : Sound (execReadDataArrival data s) := by
  unfold Machine.execReadDataArrival
  split
  · exact h.next
  · exact h.due fun _ => (h.finishRead _ data).settle

/-! ### The issues of requests and revocation closes (R6 to R8, R19, R68) -/

theorem drive {s : State} (h : s.UnitsSound) (c : BusCommand) (l : List (HoldId × Nat)) : (s.drive c l).UnitsSound := h.same (by simp)

/-- What follows the removal of the entry issued (R48, R68, R73). -/
theorem issued {s : State} (h : s.UnitsSound) (aged : Bool) (p : Port) (b : Bank) (changed : Bool) :
    (((s.evalFront p b).recordRequest aged p).afterRequest b changed).UnitsSound :=
  afterRequest ((h.evalFront p b).same (by simp)) b changed

theorem issueRowOpen {s : State} (h : s.UnitsSound) (aged : Bool) (p : Port) (e : Entry) (row : Row) :
    (s.issueRowOpen aged p e row).UnitsSound := by
  unfold State.issueRowOpen
  extract_lets d _ v w
  have driven : d.UnitsSound := h.drive _ _
  have opened : w.UnitsSound := driven.same (by simp [w, v])
  exact issued (opened.same (by simp)) aged p e.bank true

theorem issueColRead {s : State} (h : s.UnitsSound) (aged : Bool) (p : Port) (e : Entry) (column : Column) (autoClose : Bool) :
    (s.issueColRead aged p e column autoClose).UnitsSound := by
  unfold State.issueColRead
  extract_lets d v w x
  have driven : d.UnitsSound := h.drive _ _
  have closed : w.UnitsSound := driven.same (by simp [w, v])
  exact issued (closed.same (by simp)) aged p e.bank autoClose

theorem issueColWrite {s : State} (h : s.UnitsSound) (aged : Bool) (p : Port) (e : Entry) (column : Column) (autoClose : Bool)
    (slot : Fin 8) : (s.issueColWrite aged p e column autoClose slot).UnitsSound := by
  unfold State.issueColWrite
  extract_lets d v w x y
  have driven : d.UnitsSound := h.drive _ _
  have closed : w.UnitsSound := driven.same (by simp [w, v])
  exact issued (s := x) (closed.same (by simp [x])) aged p e.bank autoClose

theorem issueRowClose {s : State} (h : s.UnitsSound) (aged : Bool) (p : Port) (e : Entry) : (s.issueRowClose aged p e).UnitsSound := by
  unfold State.issueRowClose
  extract_lets d v w
  have driven : d.UnitsSound := h.drive _ _
  have closed : v.UnitsSound := completeDrain (driven.same (by simp [State.closeBank]))
  exact issued (closed.same (by simp)) aged p e.bank true

theorem issueRevocation {s : State} (h : s.UnitsSound) (b : Bank) (r : Revocation) : (s.issueRevocation b r).UnitsSound := by
  unfold State.issueRevocation
  extract_lets old d v w x
  have driven : d.UnitsSound := h.drive _ _
  have told : v.UnitsSound := .ite (driven.same (by simp)) driven
  have closed : x.UnitsSound := told.same (by simp [x, w])
  exact ((closed.reevaluate b).judgeRemoval old).settle

theorem execRowOpenIssued {s : State} (h : s.UnitsSound) : Sound (execRowOpenIssued s) := by
  unfold Machine.execRowOpenIssued
  split
  · exact h.next
  · split
    · exact (h.issueRowOpen _ _ _ _).next
    all_goals exact h.next

theorem execColReadIssued {s : State} (h : s.UnitsSound) : Sound (execColReadIssued s) := by
  unfold Machine.execColReadIssued
  split
  · exact h.next
  · split
    · exact (h.issueColRead _ _ _ _ _).next
    all_goals exact h.next

theorem execColWriteIssued {s : State} (h : s.UnitsSound) : Sound (execColWriteIssued s) := by
  unfold Machine.execColWriteIssued
  split
  · exact h.next
  · split
    · exact (h.issueColWrite _ _ _ _ _ _).next
    all_goals exact h.next

theorem execRowCloseIssued {s : State} (h : s.UnitsSound) : Sound (execRowCloseIssued s) := by
  unfold Machine.execRowCloseIssued
  split
  · exact h.next
  · split
    · exact (h.issueRowClose _ _ _).next
    all_goals exact h.next

theorem execRevocationCloseIssued {s : State} (h : s.UnitsSound) : Sound (execRevocationCloseIssued s) := by
  unfold Machine.execRevocationCloseIssued
  split
  · exact h.next
  · split
    · exact (h.issueRevocation _ _).next
    all_goals exact h.next

/-! ### The issues of rank operations (R69, R95, R99, R107, R110, R119, R125, R126, R130, R131) -/

theorem setRank {s : State} (h : s.UnitsSound) (r : RankState) : (s.setRank r).UnitsSound := h.same (by simp)

theorem recordOperation {s : State} (h : s.UnitsSound) : s.recordOperation.UnitsSound := h.same (by simp)

/-- The refresh that takes the count to CPR sets it to 0 (R99). -/
theorem countRefresh {s : State} (h : s.UnitsSound) : s.countRefresh.UnitsSound := by
  obtain ⟨low, high, below, -⟩ := h.refresh
  unfold State.countRefresh
  split
  · exact (h.rebalance low high (Nat.zero_lt_of_lt below)).shortCalibrationDue
  · rename_i short
    exact h.rebalance low high (not_le.mp short)

/-- A refresh lowers a balance that lies above −PIM (R95, R97). -/
theorem refreshDone {s : State} (h : s.UnitsSound) (above : -(s.prof.pim : Int) < s.refresh.balance) (pullIn : Bool) :
    (s.refreshDone pullIn).UnitsSound := by
  obtain ⟨-, high, below, -⟩ := h.refresh
  have paid : State.UnitsSound { s with refresh := { s.refresh with balance := s.refresh.balance - 1 } } :=
    h.rebalance (by omega) (by omega) below
  have counted : (s.refreshPaid pullIn).countRefresh.UnitsSound := countRefresh ⟨paid.fault, paid.profile, paid.refresh⟩
  rw [State.refreshDone_eq]
  exact .ite (counted.dropPurpose .refresh) counted

/-- A service refresh is offered above 0, and a pull-in above −PIM (R94, R97). -/
theorem offers_refresh_above {s : State} {pullIn : Bool} (offers : s.Offers (.refresh pullIn)) :
    -(s.prof.pim : Int) < s.refresh.balance := by
  cases pullIn with
  | false =>
    obtain ⟨-, -, owed⟩ := offers
    omega
  | true => exact offers.2

theorem issueRefresh {s : State} (h : s.UnitsSound) {pullIn : Bool} (offers : s.Offers (.refresh pullIn)) :
    (s.issueRefresh pullIn).UnitsSound := by
  have driven : (s.drive .refresh (refreshRaises s.prof)).UnitsSound := h.drive _ _
  exact (driven.refreshDone (by simpa using offers_refresh_above offers) pullIn).recordOperation.settle

theorem issueShortCalibration {s : State} (h : s.UnitsSound) : s.issueShortCalibration.UnitsSound := by
  unfold State.issueShortCalibration
  extract_lets d _ v
  have driven : d.UnitsSound := h.drive _ _
  have busy : v.UnitsSound := driven.same (by simp [v])
  exact (busy.dropPurpose .calibrate).recordOperation.settle

theorem issueLongCalibration {s : State} (h : s.UnitsSound) : s.issueLongCalibration.UnitsSound := by
  unfold State.issueLongCalibration
  extract_lets d _ v w
  have driven : d.UnitsSound := h.drive _ _
  have busy : v.UnitsSound := driven.same (by simp [v])
  have phase : w.UnitsSound := by
    unfold w
    split
    · exact busy.setRank _
    · exact busy
  exact phase.recordOperation.settle

theorem issueModeSet {s : State} (h : s.UnitsSound) (m : ModeWord) : (s.issueModeSet m).UnitsSound := by
  unfold State.issueModeSet
  extract_lets d v
  have driven : d.UnitsSound := h.drive _ _
  have phase : v.UnitsSound := by
    unfold v
    split
    · exact driven.setRank _
    · exact driven
  exact phase.recordOperation.settle

theorem issuePowerDownEntry {s : State} (h : s.UnitsSound) : s.issuePowerDownEntry.UnitsSound := by
  unfold State.issuePowerDownEntry
  extract_lets d u _ v
  have driven : d.UnitsSound := h.drive _ _
  have entered : u.UnitsSound := driven.become _
  have stopped : v.UnitsSound := entered.same (by simp [v])
  exact stopped.recordOperation.judgeUnanimity.settle

theorem issuePowerDownExit {s : State} (h : s.UnitsSound) : s.issuePowerDownExit.UnitsSound := by
  unfold State.issuePowerDownExit
  extract_lets d v
  have driven : d.UnitsSound := h.drive _ _
  have moved : v.UnitsSound := .ite driven.carryOutStop (driven.become .active).judgeUnanimity
  exact moved.recordOperation.settle

/-- The interval timer STOPPED, as a self-refresh entry leaves it (R90). -/
theorem stopTimer {s : State} (h : s.UnitsSound) : State.UnitsSound { s with refresh := { s.refresh with timer := none } } :=
  h.of_parts h.fault rfl ⟨rfl, rfl, rfl⟩

theorem issueSelfRefreshEntry {s : State} (h : s.UnitsSound) : s.issueSelfRefreshEntry.UnitsSound := by
  unfold State.issueSelfRefreshEntry
  extract_lets d served u v x _ y
  have driven : d.UnitsSound := h.drive _ _
  have left : u.UnitsSound := (driven.dropPurpose .sleep).dropPurpose .stop
  have ended : v.UnitsSound := .ite (left.same ⟨rfl, rfl, rfl⟩) left
  have asleep : x.UnitsSound := ended.become (.sleep false)
  have moved : y.UnitsSound := .ite (ended.enterOffline true) asleep.stopTimer.judgeUnanimity
  exact moved.recordOperation.settle

/-- Every self-refresh exit sets the balance to 0 (R90). -/
theorem exitReports {s : State} (h : s.UnitsSound) : s.exitReports.UnitsSound := by
  unfold State.exitReports
  extract_lets _ u v
  have locked : u.UnitsSound := h.same (by simp [u])
  exact locked.shortCalibrationDue.zeroBalance

theorem exitRank {s : State} (h : s.UnitsSound) : s.exitRank.UnitsSound := by
  unfold State.exitRank
  split
  · exact h.become _
  · exact h.same (by simp)
  · exact h

theorem issueSelfRefreshExit {s : State} (h : s.UnitsSound) : s.issueSelfRefreshExit.UnitsSound := by
  unfold State.issueSelfRefreshExit
  extract_lets d
  have driven : d.UnitsSound := h.drive _ _
  have moved : d.exitRank.votesAwake.UnitsSound := driven.exitRank.same ⟨rfl, rfl, rfl⟩
  exact moved.exitReports.recordOperation.settle

theorem execRefreshIssued {s : State} (h : s.UnitsSound) : Sound (execRefreshIssued s) := by
  unfold Machine.execRefreshIssued
  split
  · rename_i pullIn granted
    exact (h.issueRefresh (State.granted_operation granted).1).next
  all_goals exact h.next

theorem execModeSetIssued {s : State} (h : s.UnitsSound) : Sound (execModeSetIssued s) := by
  unfold Machine.execModeSetIssued
  split
  · exact (h.issueModeSet _).next
  all_goals exact h.next

/-! ### The rank's own times (R107, R119, R120, R126, R131) -/

theorem notBusy {s : State} (h : s.UnitsSound) : s.notBusy.UnitsSound := h.same (by simp)

theorem execResetHoldEnd {s : State} (h : s.UnitsSound) : Sound (execResetHoldEnd s) := by
  unfold Machine.execResetHoldEnd
  split
  · exact h.due fun _ => h.setRank _
  · exact h.next

theorem execClockSettleEnd {s : State} (h : s.UnitsSound) : Sound (execClockSettleEnd s) := by
  unfold Machine.execClockSettleEnd
  split
  · exact h.due fun _ => h.setRank _
  · exact h.next

theorem execExitWaitEnd {s : State} (h : s.UnitsSound) : Sound (execExitWaitEnd s) := by
  unfold Machine.execExitWaitEnd
  split
  · exact h.due fun _ => h.setRank _
  · exact h.next

theorem execResidencyEnd {s : State} (h : s.UnitsSound) : Sound (execResidencyEnd s) := by
  unfold Machine.execResidencyEnd
  split
  · exact h.due fun _ => h.setRank _
  · exact h.next

theorem endWake {s : State} (h : s.UnitsSound) : s.endWake.UnitsSound := (ite h.becomeActive.carryOutStop h.becomeActive).settle

/-! ### The management port (R118, R121, R122, R156, R162, R166, R167) -/

theorem setStatus {s : State} (h : s.UnitsSound) (c : CommandStatus) : (s.setStatus c).UnitsSound := h.same (by simp)

/-- A START sets the balance and the count to 0 (R90, R99). -/
theorem takeStart {s : State} (h : s.UnitsSound) : s.takeStart.UnitsSound := by
  unfold State.takeStart
  extract_lets u
  have taken : u.UnitsSound := (h.setStatus .ok).become _
  obtain ⟨-, -, below, -⟩ := taken.refresh
  exact (taken.rebalance (by omega) (by omega) (Nat.zero_lt_of_lt below)).settle

theorem execStart {s : State} (h : s.UnitsSound) : Sound (execStart s) := by
  unfold Machine.execStart
  repeat' split
  · exact (h.setStatus .notOffline).next
  · exact (h.setStatus .noProfile).next
  · exact h.takeStart.next

theorem execStop {s : State} (h : s.UnitsSound) : Sound (execStop s) := by
  have ok := h.setStatus .ok
  have refused := (h.setStatus .notRunning).next
  have pending : State.UnitsSound { s.setStatus .ok with rank := { (s.setStatus .ok).rank with stopPending := true } } :=
    ok.same ⟨rfl, rfl, rfl⟩
  unfold Machine.execStop
  split
  · exact refused
  · split
    · exact ok.carryOutStop.settle.next
    · exact pending.wantExit.judgeUnanimity.settle.next
    · exact (ok.refuseQueues.enterOffline true).settle.next
    · exact pending.settle.next
    · exact (ok.refuseQueues.enterOffline _).settle.next
    · exact refused
    · exact refused

/-- A commit status that names a check names one of the 47 (R156). -/
theorem setCommit {s : State} (h : s.UnitsSound) {c : CommitStatus} (named : ∀ n, c = .commitRejected n → 1 ≤ n ∧ n ≤ 47) :
    (s.setCommit c).UnitsSound := by
  obtain ⟨passed, default, -⟩ := h.profile
  exact ⟨h.fault, ⟨passed, default, named⟩, h.refresh⟩

/-- A staged copy that has passed every check becomes the active one, with a balance and a count of 0 (R162). -/
theorem applyCommit {s : State} (h : s.UnitsSound) (passes : s.profile.staged.firstFailure = none) : s.applyCommit.UnitsSound := by
  obtain ⟨-, -, -, table⟩ := h.refresh
  have low : -(s.profile.staged.pim : Int) ≤ 0 := by omega
  exact ⟨h.fault, ⟨.inr passes, nofun, nofun⟩, low, Int.natCast_nonneg _, Profile.cpr_pos passes, table⟩

theorem execCommit {s : State} (h : s.UnitsSound) : Sound (execCommit s) := by
  unfold Machine.execCommit
  split
  · exact (h.setCommit (c := .notOffline) nofun).next
  · split
    · exact (h.applyCommit ‹_›).next
    · rename_i n fails
      refine (h.setCommit fun m named => ?_).next
      obtain rfl := CommitStatus.commitRejected.inj named
      exact Profile.firstFailure_range fails

theorem execFaultPop {s : State} (h : s.UnitsSound) : Sound (execFaultPop s) := by
  unfold Machine.execFaultPop
  split
  · exact next ⟨h.fault, h.profile, h.refresh⟩
  · rename_i some
    exact next ⟨h.fault.pop (by simpa using some) _, h.profile, h.refresh⟩

theorem execRegisterCapture {s : State} (h : s.UnitsSound) (address : BitVec 16) : Sound (execRegisterCapture address s) := by
  refine next ?_
  unfold State.captured
  split <;> exact h.same ⟨rfl, rfl, rfl⟩

/-! ### Every command -/

theorem exec {s : State} (h : s.UnitsSound) (c : Instr) : Sound (exec c s) := by
  cases c with
  | powerOnReset lanes thot => exact execPowerOnReset lanes thot s
  | softReset => exact h.execSoftReset
  | linkUp p => exact h.due fun _ => h.same (by simp)
  | linkDown p => exact h.execLinkDown p
  | thotAsserted => exact (h.takeThot true).settle.next
  | thotDeasserted => exact (h.takeThot false).settle.next
  | frameCrcDiscard p bytes => exact h.due fun _ => h.discardFrame p .crc
  | frameOutOfSequence p seq => exact h.due fun _ => h.outOfSequence p
  | join p hd revision => exact (h.receive p hd true fun _ g => g.takeJoin p hd.tag revision).next
  | leave p hd => exact (h.receive p hd false fun _ g => g.takeLeave p hd.tag).next
  | leaseExtend p hd bank => exact (h.receive p hd false fun _ g => g.takeExtend p hd.tag bank).next
  | cancel p hd target => exact (h.receive p hd false fun _ g => g.takeCancel p hd.tag target).next
  | sleepVote p hd => exact (h.receive p hd false fun _ g => g.takeSleepVote p hd.tag).next
  | wake p hd => exact (h.receive p hd false fun _ g => g.takeWake p hd.tag).next
  | tempReport p hd t => exact (h.receive p hd false fun _ g => g.takeReport p hd.tag t).next
  | rowOpen p hd bank row => exact (h.queued p hd bank _).next
  | colRead p hd bank row column flags => exact (h.queued p hd bank _).next
  | colWrite p hd bank row column flags data => exact (h.queued p hd bank _).next
  | rowClose p hd bank => exact (h.queued p hd bank _).next
  | handedToLink p => exact h.execHandedToLink p
  | readyToLeave p => exact h.execReadyToLeave p
  | leaveComplete p => exact h.execLeaveComplete p
  | holdMet id => exact h.due fun _ => settle (h.same (by simp))
  | windowEntryLeaves => exact h.due fun _ => settle (h.same ⟨rfl, rfl, rfl⟩)
  | leaseWarning b => exact h.execLeaseWarning b
  | leaseExpiry b => exact h.execLeaseExpiry b
  | graceEnd => exact h.due fun _ => (h.endGrace.judgeRemoval s).settle
  | intervalTimerExpiry => exact h.due fun _ => h.expireInterval
  | entryAged p tag => exact h.execEntryAged p tag
  | writeBurstStart => exact h.execWriteBurstStart
  | readBurstStart => exact h.execReadBurstStart
  | writeDataEnd => exact h.execWriteDataEnd
  | readDataArrival data => exact h.execReadDataArrival data
  | rowOpenIssued => exact h.execRowOpenIssued
  | colReadIssued => exact h.execColReadIssued
  | colWriteIssued => exact h.execColWriteIssued
  | rowCloseIssued => exact h.execRowCloseIssued
  | revocationCloseIssued => exact h.execRevocationCloseIssued
  | refreshIssued => exact h.execRefreshIssued
  | shortCalibrationIssued => exact h.due fun _ => h.issueShortCalibration
  | longCalibrationIssued => exact h.due fun _ => h.issueLongCalibration
  | modeSetIssued => exact h.execModeSetIssued
  | powerDownEntryIssued => exact h.due fun _ => h.issuePowerDownEntry
  | powerDownExitIssued => exact h.due fun _ => h.issuePowerDownExit
  | selfRefreshEntryIssued => exact h.due fun _ => h.issueSelfRefreshEntry
  | selfRefreshExitIssued => exact h.due fun _ => h.issueSelfRefreshExit
  | longCalBusyEnd => exact h.due fun _ => ite h.notBusy.becomeActive.settle h.notBusy.settle
  | shortCalBusyEnd => exact h.due fun _ => h.notBusy.settle
  | lockEnd => exact h.due fun _ => settle (h.same ⟨rfl, rfl, rfl⟩)
  | resetHoldEnd => exact h.execResetHoldEnd
  | clockSettleEnd => exact h.execClockSettleEnd
  | exitWaitEnd => exact h.execExitWaitEnd
  | modeLoadEnd => exact h.due fun _ => h.becomeActive.settle
  | idleTimerExpiry => exact h.due fun _ => h.same ⟨rfl, rfl, rfl⟩
  | residencyEnd => exact h.execResidencyEnd
  | wakeEnd => exact h.due fun _ => h.endWake
  | start => exact h.execStart
  | stop => exact h.execStop
  | commit => exact h.execCommit
  | faultPop => exact h.execFaultPop
  | mgmtErrorClear value => exact h.due fun _ => ⟨h.fault, h.profile, h.refresh⟩
  | alertMaskWrite value => exact next ⟨h.fault.remask _, h.profile, h.refresh⟩
  | stagedProfileWrite field byte value => exact next ⟨h.fault, h.profile, h.refresh⟩
  | mgmtWriteBad address value => exact h.due fun _ => ⟨h.fault, h.profile, h.refresh⟩
  | registerCapture address => exact h.execRegisterCapture address
  | badKindFrame p hd kind length => exact h.execBadKindFrame p hd kind length

/-- A step on a command, a step of the block's own and a ck that passes (R1, assumption 7). -/
theorem step {s : State} (h : s.UnitsSound) : Sound (step s) := by
  unfold Machine.step
  split
  · rename_i c rest _
    exact exec (s := { s with pending := rest }) ⟨h.fault, h.profile, h.refresh⟩ c
  · unfold idleStep
    split
    · exact exec (s := s.drawn) ⟨h.fault, h.profile, h.refresh⟩ _
    · exact next ⟨h.fault, h.profile, h.refresh⟩

end State.UnitsSound

end Sys2Proof.Machine

namespace Sys2Proof.Proofs

open Sys2Proof Sys2Proof.Machine

/-- Settles O11: the three invariants together (`State.UnitsSound`) are kept by every command (`State.UnitsSound.exec`) and so by every
step. -/
theorem faultProfileAndRefreshInvariantsKept : Obligations.FaultProfileAndRefreshInvariantsKept := by
  intro s t fault profile refresh stepped
  obtain ⟨fault', profile', refresh'⟩ := State.UnitsSound.step ⟨fault, profile, refresh⟩ t stepped
  exact ⟨fault', profile', refresh'⟩

end Sys2Proof.Proofs
end

section
/-! PROOFS. A JOIN that opens a session or is refused for its revision (R139), and START (R118): O22 and O56. -/

namespace Sys2Proof.Machine

/-! ### START (R90, R99, R117, R118) -/

/-- A START taken, up to what the end of a happening judges: the first phase of its path, told to every current session, and the refresh
balance and count at 0 (R90, R99, R117, R118). -/
theorem State.takeStart_bare (s : State) : s.takeStart.bare = State.bare { s.told (.rankState .bringUp) with
    rank := { s.rank with status := .ok, state := s.firstPhase }
    refresh := { s.refresh with balance := 0, count := 0 } } := by
  rw [State.takeStart, State.settle_bare, State.become_eq, s.firstPhase_name]
  rfl

/-! ### The rank after a JOIN (R83, R128, R131) -/

/-- A rank state told of a cause of wake alone: wake wanted in SLEEP (R131). -/
def RankState.woken : RankState → RankState
  | .sleep _ => .sleep true
  | x => x

theorem State.wantWake_eq (s : State) : s.wantWake = s.setRank s.rank.state.woken := by
  have same : ∀ x, s.rank.state = x → s = s.setRank x := by rintro _ rfl; rfl
  cases state : s.rank.state with
  | sleep wanted => simp only [State.wantWake, state, RankState.woken]
  | _ => simpa only [State.wantWake, state, RankState.woken] using same _ state

/-- With a master awake, judging unanimity withdraws a sleep entry that has begun and may set the idle timer (R83, R124, R128). -/
theorem State.judgeUnanimity_awake_eq {s : State} {p : Port} (vote : s.rank.votes.look p = some .awake) : ∃ i,
    s.judgeUnanimity = State.withIdle { s with rank := { s.rank with sleepBegun := false }, drain := s.drainAwake } i := by
  rw [s.judgeUnanimity_of_awake id p vote]
  by_cases begun : s.rank.sleepBegun = true
  · rw [if_pos begun]
    exact State.judgeIdle_withIdle _
  · have drain : s.drainAwake = s.drain := if_neg begun
    rw [if_neg begun, drain, ← Bool.eq_false_of_not_eq_true begun]
    exact ⟨s.rank.idle, rfl⟩

/-! ### JOIN in LINKED (R127, R139) -/

/-- The session that a JOIN opens in the state `s`, with its vote, before unanimity is judged: WELCOME and RANK_STATE under the new epoch
(R127, R139). -/
def State.joined (s : State) (p : Port) (tag : Byte) : State :=
  let e := nextEpoch s.epochCounter
  let l := s.links.look p
  { s with
    epochCounter := e
    links := s.links.put p { l with
      session := .joined e, outbound := l.outbound ++ [⟨e, tag, .welcome⟩, ⟨e, 0, .rankState s.rank.state.name⟩] }
    rank := { s.rank with votes := s.rank.votes.put p (some .awake) } }

/-- A session is opened, unanimity judged, and a sleeping rank told to wake (R128, R131, R139). -/
theorem State.openSession_eq (s : State) (p : Port) (tag : Byte) :
    s.openSession p tag = (s.joined p tag).judgeUnanimity.wantWake := by
  let e := nextEpoch s.epochCounter
  let v := State.modLink { s with epochCounter := e } p fun l => { l with session := .joined e }
  have epoch : v.epoch? p = some e := by simp [v, State.epoch?, State.modLink, Session.epoch?]
  have sent : (v.reply p tag .welcome).notice p (.rankState s.rank.state.name) =
      v.withSent p [⟨e, tag, .welcome⟩, ⟨e, 0, .rankState s.rank.state.name⟩] := by
    simp [State.reply_withSent, State.notice_withSent, State.frameEpoch, epoch]
  have joined : (v.withSent p [⟨e, tag, .welcome⟩, ⟨e, 0, .rankState s.rank.state.name⟩]).setVote p (some .awake) =
      s.joined p tag := by
    simp [v, e, State.withSent, State.modLink, State.setVote, State.joined, Table.modify]
  rw [← joined, ← sent]
  rfl

/-- What opening a session does, up to what the end of a happening judges (R127, R128, R131, R139). -/
theorem State.openSession_bare (s : State) (p : Port) (tag : Byte) :
    (s.openSession p tag).bare = State.bare { s.joined p tag with
      rank := { (s.joined p tag).rank with sleepBegun := false, state := s.rank.state.woken }
      drain := s.drainAwake } := by
  obtain ⟨i, judged⟩ := State.judgeUnanimity_awake_eq (s := s.joined p tag) (p := p) (Table.look_put_same _ _ _)
  rw [State.openSession_eq, judged, State.wantWake_eq]
  rfl

/-- A JOIN in sequence in LINKED passes every check of a frame, and goes by its revision (R136, R137, R139). -/
theorem exec_join_linked {s : State} {p : Port} {h : Header} (linked : (s.links.look p).session = .linked)
    (seq : h.seq = (s.links.look p).expected) (revision : Byte) :
    exec (.join p h revision) s = .next (if revision = 1#8 then ((s.answered p []).openSession p h.tag).settle
      else s.answered p [⟨0, h.tag, .joinRefused⟩]) := by
  have up : (s.links.look p).session.laneUp = true := by rw [linked]; rfl
  have noSession : s.epoch? p = none := by rw [State.epoch?, linked]; rfl
  have passes : s.sessionCheck p h true = none := by simp [State.sessionCheck, linked, Session.epoch?]
  have counted : ((s.answered p []).links.look p).session.epoch? = none := (s.answered_epoch p p []).trans noSession
  have refused : (s.answered p []).reply p h.tag .joinRefused = s.answered p [⟨0, h.tag, .joinRefused⟩] := by
    rw [State.answered_reply, State.frameEpoch, noSession]
    rfl
  simp only [exec, execJoin, s.receive_eq p h true _ up seq, passes, State.takeJoin, counted, refused]
  by_cases one : revision = 1#8 <;> simp [one]

end Sys2Proof.Machine

namespace Sys2Proof.Proofs

open Sys2Proof Sys2Proof.Machine

/-- Settles O22: the JOIN is counted (`State.answered`), then its session opened (`State.openSession_bare`). -/
theorem joinOpensASession : Obligations.JoinOpensASession := by
  intro s p h revision linked seq
  rw [exec_join_linked linked seq revision]
  refine ⟨fun one => ⟨_, congrArg _ (if_pos one), ?_⟩, fun other => congrArg _ (if_neg other)⟩
  rw [State.settle_bare, State.openSession_bare]
  simp only [State.joined, State.answered, Table.look_put_same, Table.put_put, List.append_nil]
  rfl

/-- Settles O56: the two checks of START in their order, then a START taken (`State.takeStart_bare`). -/
theorem startBeginsTheBringUp : Obligations.StartBeginsTheBringUp := by
  intro s
  refine ⟨fun running => ?_, fun offline invalid => ?_, fun offline valid => ⟨s.takeStart, ?_, s.takeStart_bare⟩⟩
  · exact if_pos running
  · exact (if_neg (not_not.mpr offline)).trans (if_pos invalid)
  · exact (if_neg (not_not.mpr offline)).trans (if_neg (by simp [valid]))

end Sys2Proof.Proofs
end

section
/-! PROOFS. Lane changes without a session, inbound frames that are discarded or refused, and the head frame that the link takes (R133 to
R137, R145, R153, R173, R174): O18, O20, O21 and O35. -/

namespace Sys2Proof.Machine

/-! ### The lane (R133, R134) -/

theorem Session.laneUp_iff (x : Session) : x.laneUp = true ↔ x ≠ .down := by cases x <;> simp [Session.laneUp]

/-- LINKED goes DOWN with its outbound queue discarded and the BUFFERED spaces of the port freed (R134, R145, R153). -/
theorem State.linkedDown_eq (s : State) (p : Port) : (s.discardOutbound p).modLink p SessionEnd.lost.link = { s with
    links := s.links.put p ⟨.down, 0, false, 0, [], (s.links.look p).lastFrame⟩
    mover := { s.mover with ports := s.mover.ports.put p { s.mover.ports.look p with
      spaces := (s.mover.ports.look p).spaces.map ReadSpace.dropBuffered } } } := by
  simp [State.discardOutbound, State.modLink, State.modMover, Table.modify, SessionEnd.link]

theorem exec_linkUp_down {s : State} {p : Port} (down : (s.links.look p).session = .down) :
    exec (.linkUp p) s = .next { s with links := s.links.put p ⟨.linked, 0, false, 0, [], (s.links.look p).lastFrame⟩ } :=
  if_pos down

theorem exec_linkDown_down {s : State} {p : Port} (down : (s.links.look p).session = .down) : exec (.linkDown p) s = .next s := by
  simp only [exec, execLinkDown, down]

theorem exec_linkDown_linked {s : State} {p : Port} (linked : (s.links.look p).session = .linked) :
    exec (.linkDown p) s = .next ((s.discardOutbound p).modLink p SessionEnd.lost.link).settle := by
  simp only [exec, execLinkDown, linked]

/-! ### Inbound frames that are not taken (R135, R136) -/

/-- A frame is not whole where it is shorter than 6 bytes or does not end in the check over its other bytes (R135, R172, R173). -/
theorem frameSound_eq_false (bytes : List Byte) : frameSound bytes = false ↔
    bytes.length < 6 ∨ bytes ≠ withCheck (bytes.take (bytes.length - 2)) := by
  have check : bytes = withCheck (bytes.take (bytes.length - 2)) ↔
      bytes.drop (bytes.length - 2) = bytes16 (crc16 (bytes.take (bytes.length - 2))) := by
    conv_lhs => lhs; rw [← List.take_append_drop (bytes.length - 2) bytes]
    exact List.append_right_inj _
  rw [ne_eq, check, frameSound, Bool.and_eq_false_iff, decide_eq_false_iff_not, not_le, beq_eq_false_iff_ne]

/-- The ports' counters are no part of handing over a record (R165, R169). -/
theorem FaultUnit.hand_ports (f : FaultUnit) (ports : Table PortCounters 4) (r : FaultRecord) :
    FaultUnit.hand { f with ports := ports } r = { f.hand r with ports := ports } := by
  unfold FaultUnit.hand
  split <;> rfl

/-- A frame discarded is counted and recorded, and changes nothing else (R135, R136). -/
theorem State.discardFrame_eq (s : State) (p : Port) (d : FaultDetail) : s.discardFrame p d = { s with
    fault := { s.fault.hand ⟨.frameError, some p, none, d, s.time48⟩ with
      ports := s.fault.ports.put p { s.fault.ports.look p with discarded := (s.fault.ports.look p).discarded + 1 } } } := by
  rw [← FaultUnit.hand_ports]
  rfl

/-- Out of sequence with a RESYNC pending already, a frame is discarded (R136). -/
theorem State.outOfSequence_pending {s : State} {p : Port} (pending : (s.links.look p).resync = true) :
    s.outOfSequence p = s.discardFrame p .sequence := if_pos pending

/-- Out of sequence with no RESYNC pending, a frame is discarded and RESYNC sent (R136). -/
theorem State.outOfSequence_first {s : State} {p : Port} (first : (s.links.look p).resync = false) :
    s.outOfSequence p = { s.discardFrame p .sequence with
      links := s.links.put p { s.links.look p with
        resync := true
        outbound := (s.links.look p).outbound ++ [⟨s.frameEpoch p, 0, .resync (s.links.look p).expected⟩] } } := by
  have sends : s.outOfSequence p = ((s.discardFrame p .sequence).notice p (.resync (s.links.look p).expected)).modLink p
      fun l => { l with resync := true } := if_neg (ne_true_of_eq_false first)
  rw [sends, State.notice_withSent]
  simp only [State.withSent, State.modLink, Table.modify, Table.look_put_same, Table.put_put]
  rfl

/-- No sound frame passes in DOWN (R133). -/
theorem State.receive_down {s : State} {p : Port} (down : (s.links.look p).session = .down) (h : Header) (isJoin : Bool)
    (route : State → State) : s.receive p h isJoin route = s := if_pos (by rw [down]; rfl)

/-- A sound frame out of sequence is discarded, whatever its kind (R136, assumption 11). -/
theorem State.receive_lost {s : State} {p : Port} {h : Header} (up : (s.links.look p).session ≠ .down)
    (lost : h.seq ≠ (s.links.look p).expected) (isJoin : Bool) (route : State → State) :
    s.receive p h isJoin route = s.outOfSequence p :=
  (if_neg (by rw [(Session.laneUp_iff _).mpr up]; nofun)).trans (if_pos lost)

theorem exec_frameCrcDiscard_damaged {s : State} {p : Port} {bytes : List Byte} (up : (s.links.look p).session ≠ .down)
    (damaged : frameSound bytes = false) : exec (.frameCrcDiscard p bytes) s = .next (s.discardFrame p .crc) :=
  if_pos (by simp [(Session.laneUp_iff _).mpr up, damaged])

theorem exec_frameCrcDiscard_down {s : State} {p : Port} (down : (s.links.look p).session = .down) (bytes : List Byte) :
    exec (.frameCrcDiscard p bytes) s = .next s := if_neg (by simp [down, Session.laneUp])

/-! ### Inbound frames by their kind (R137, R173) -/

/-- A frame that is no request: refused once it has passed checks 1 and 2 (R137, R173). -/
theorem exec_badKindFrame {p : Port} {h : Header} {kind : Byte} {length : Nat}
    (bad : (Instr.badKindFrame p h kind length).wellFormed = true) (s : State) : exec (.badKindFrame p h kind length) s =
      .next (s.receive p h (Instr.badKindFrame p h kind length).isJoin fun s => s.refuse p h.tag .badKind) := by
  obtain ⟨kind, long⟩ : requestFrame kind length = false ∧ 6 ≤ length := by simpa [Instr.wellFormed] using bad
  exact if_neg (by simp [kind, long])

theorem badKindFrame_of_header {p q : Port} {h g : Header} {kind : Byte} {length : Nat}
    (frame : (Instr.badKindFrame p h kind length).header? = some (q, g)) :
    (Instr.badKindFrame p h kind length).wellFormed = true ∧ p = q ∧ h = g := by
  simpa only [Instr.header?, Option.ite_none_right_eq_some, Option.some.injEq, Prod.mk.injEq] using frame

/-- Every sound frame is received under its header, and goes on to its kind's own block (R136, R137). -/
theorem exec_of_header {c : Instr} {p : Port} {h : Header} (frame : c.header? = some (p, h)) :
    ∃ route, ∀ s, exec c s = .next (s.receive p h c.isJoin route) := by
  cases c with
  | badKindFrame =>
    obtain ⟨bad, rfl, rfl⟩ := badKindFrame_of_header frame
    exact ⟨_, exec_badKindFrame bad⟩
  | join | leave | leaseExtend | cancel | sleepVote | wake | tempReport | rowOpen | colRead | colWrite | rowClose =>
    cases frame
    exact ⟨_, fun _ => rfl⟩
  | _ => cases frame

/-- A frame command that finds its port DOWN changes nothing (R133, assumption 11). -/
theorem exec_frame_down {s : State} {p : Port} {seq : Byte} {c : Instr}
    (frame : c = .frameOutOfSequence p seq ∨ ∃ h, c.header? = some (p, h) ∧ h.seq = seq) (down : (s.links.look p).session = .down) :
    exec c s = .next s := by
  rcases frame with rfl | ⟨h, header, -⟩
  · exact if_neg (by simp [down, Session.laneUp])
  · obtain ⟨route, takes⟩ := exec_of_header header
    rw [takes, State.receive_down down]

/-- A frame command out of sequence discards its frame (R136, assumption 11). -/
theorem exec_frame_lost {s : State} {p : Port} {seq : Byte} {c : Instr}
    (frame : c = .frameOutOfSequence p seq ∨ ∃ h, c.header? = some (p, h) ∧ h.seq = seq) (up : (s.links.look p).session ≠ .down)
    (lost : seq ≠ (s.links.look p).expected) : exec c s = .next (s.outOfSequence p) := by
  rcases frame with rfl | ⟨h, header, rfl⟩
  · exact if_pos (by simp [(Session.laneUp_iff _).mpr up, lost])
  · obtain ⟨route, takes⟩ := exec_of_header header
    rw [takes, State.receive_lost up lost]

/-! ### The session checks (R137) -/

theorem State.sessionCheck_none {s : State} {p : Port} (none : s.epoch? p = none) (h : Header) (isJoin : Bool) :
    s.sessionCheck p h isJoin = if isJoin then .none else some .noSession := by
  rw [State.epoch?] at none
  simp only [State.sessionCheck, none]

theorem State.sessionCheck_some {s : State} {p : Port} {e : Byte} (current : s.epoch? p = some e) (h : Header) (isJoin : Bool) :
    s.sessionCheck p h isJoin = if isJoin || h.epoch == e then none else some .staleSession := by
  rw [State.epoch?] at current
  simp only [State.sessionCheck, current]

/-! ### The head frame taken by the link (R145, R153, R174) -/

/-- The frame goes with its number and its check, and a DATA frame leaves its space FREE (R153, R174). -/
theorem State.handHead_eq {s : State} {p : Port} {f : OutFrame} {rest : List OutFrame}
    (queue : (s.links.look p).outbound = f :: rest) : s.handHead p f = { s with
      links := s.links.put p { s.links.look p with
        outbound := rest, outSeq := (s.links.look p).outSeq + 1
        lastFrame := some (withCheck ((s.links.look p).outSeq :: f.epoch :: f.message.code :: f.tag :: f.message.body)) }
      mover := match f.message with
        | .data i _ => { s.mover with ports := s.mover.ports.put p { s.mover.ports.look p with
            spaces := (s.mover.ports.look p).spaces.put i .free } }
        | _ => s.mover } := by
  cases message : f.message <;>
    simp [State.handHead, message, Message.space?, State.modLink, Table.modify, queue, OutFrame.bytes, State.setSpace, State.modMover]

theorem exec_handedToLink {s : State} {p : Port} (up : (s.links.look p).session ≠ .down) :
    exec (.handedToLink p) s = match (s.links.look p).outbound with
      | [] => .next s
      | f :: _ => .next (s.handHead p f).settle := by
  have lane := (Session.laneUp_iff _).mpr up
  cases queue : (s.links.look p).outbound <;> simp only [exec, execHandedToLink, lane, queue]

end Sys2Proof.Machine

namespace Sys2Proof.Proofs

open Sys2Proof Sys2Proof.Machine

/-- Settles O18: each lane change by the session state it finds; LINKED goes DOWN by `State.linkedDown_eq`. -/
theorem laneChangesWithoutASession : Obligations.LaneChangesWithoutASession := by
  intro s p l m
  refine ⟨fun down => ⟨exec_linkUp_down down, exec_linkDown_down down⟩, fun other => if_neg other, fun linked =>
    ⟨_, exec_linkDown_linked linked, ?_⟩⟩
  rw [State.settle_bare, State.linkedDown_eq]

/-- Settles O20: a damaged frame is judged by `frameSound_eq_false`, a frame out of sequence by `exec_frame_lost`, and what becomes of
either is `State.discardFrame_eq`. -/
theorem damagedAndLostFramesAreDiscarded : Obligations.DamagedAndLostFramesAreDiscarded := by
  intro s p l n discarded
  have discards (d : FaultDetail) : s.discardFrame p d = discarded d := s.discardFrame_eq p d
  refine ⟨fun bytes up damaged => ?_, fun bytes down => ?_, fun seq c frame => ⟨exec_frame_down frame, fun up lost => ⟨?_, ?_⟩⟩⟩
  · rw [exec_frameCrcDiscard_damaged up ((frameSound_eq_false bytes).mpr damaged), discards]
  · exact exec_frameCrcDiscard_down down bytes
  · intro pending
    rw [exec_frame_lost frame up lost, State.outOfSequence_pending pending, discards]
  · intro first
    rw [exec_frame_lost frame up lost, State.outOfSequence_first first, discards]
    rfl

/-- Settles O21: a frame in sequence is refused by the first session check it fails (`State.receive_eq`), and a frame of no request kind
by its own block. -/
theorem sessionChecksRefuse : Obligations.SessionChecksRefuse := by
  intro s p h c frame up seq
  have lane := (Session.laneUp_iff _).mpr up
  obtain ⟨route, takes⟩ := exec_of_header frame
  refine ⟨fun none other => ?_, fun e current stale other => ?_, ?_⟩
  · rw [takes, s.receive_eq p h _ _ lane seq, State.sessionCheck_none none, other]
    rfl
  · rw [takes, s.receive_eq p h _ _ lane seq, State.sessionCheck_some current, other, if_neg (by simpa using stale)]
  · rintro kind length rfl passes
    obtain ⟨bad, -, -⟩ := badKindFrame_of_header frame
    have check : s.sessionCheck p h (Instr.badKindFrame p h kind length).isJoin = none := by
      rcases passes with join | current
      · cases session : s.epoch? p with
        | none => rw [State.sessionCheck_none session, if_pos join]
        | some e => rw [State.sessionCheck_some session, if_pos (by rw [join]; rfl)]
      · rw [State.sessionCheck_some current, if_pos (by simp)]
    rw [exec_badKindFrame bad, s.receive_eq p h _ _ lane seq, check, State.answered_refuse]

/-- Settles O35: the head frame leaves by `State.handHead_eq`. -/
theorem headFrameHandedToLink : Obligations.HeadFrameHandedToLink := by
  intro s p up l m
  have takes := exec_handedToLink up
  refine ⟨fun empty => ?_, fun f rest queue => ?_⟩
  · rw [takes, empty]
  · rw [queue] at takes
    exact ⟨_, takes, (State.settle_bare _).trans (congrArg State.bare (State.handHead_eq queue))⟩

end Sys2Proof.Proofs
end

section
/-! PROOFS. What the end of a session leaves to a port that has no session and no request any more: nothing is sent to it, and no
revocation from it is undone (R11, R17, R52, R76, R79, R103, R128). -/

namespace Sys2Proof.Machine

/-! ### A port without a session and without requests -/

/-- The port has no session, and no request in its queue. -/
def State.Absent (s : State) (p : Port) : Prop := s.epoch? p = none ∧ (s.queues.look p).entries = []

/-- The bank is being revoked from the owner for the reason (R17). -/
def State.Revoked (s : State) (o : Owner) (reason : RevokeReason) (b : Bank) : Prop :=
  ∃ r, (s.banks.look b).state = .revoking r ∧ r.owner = o ∧ r.reason = reason

/-- From `s` to `t` the owner's port is sent nothing and keeps its queue, its slots and its spaces; the revocations from the owner for the
reason stand, no revoked-from record changes, and the fault list is appended to at most. -/
structure LeftAlone (o : Owner) (reason : RevokeReason) (s t : State) : Prop where
  link : t.links.look o.port = s.links.look o.port
  queue : t.queues.look o.port = s.queues.look o.port
  mover : t.mover.ports.look o.port = s.mover.ports.look o.port
  revoked : ∀ b, s.Revoked o reason b → t.Revoked o reason b
  revokedFrom : ∀ b, (t.banks.look b).revokedFrom = (s.banks.look b).revokedFrom
  list : s.fault.list <+: t.fault.list
  rest : SameBut [.links, .queues, .banks, .drain, .mover, .refresh, .rank, .fault] s t

/-- An absent owner's port is left alone. -/
def Spares (o : Owner) (reason : RevokeReason) (s t : State) : Prop := s.Absent o.port → LeftAlone o reason s t

section
variable {o : Owner} {reason : RevokeReason}

theorem LeftAlone.absent {s t : State} (h : LeftAlone o reason s t) (absent : s.Absent o.port) : t.Absent o.port := by
  rwa [State.Absent, State.epoch?, h.link, h.queue]

theorem LeftAlone.trans {s t u : State} (h : LeftAlone o reason s t) (g : LeftAlone o reason t u) : LeftAlone o reason s u where
  link := g.link.trans h.link
  queue := g.queue.trans h.queue
  mover := g.mover.trans h.mover
  revoked b := g.revoked b ∘ h.revoked b
  revokedFrom b := (g.revokedFrom b).trans (h.revokedFrom b)
  list := h.list.trans g.list
  rest := h.rest.trans g.rest

theorem Spares.trans {s t u : State} (h : Spares o reason s t) (g : Spares o reason t u) : Spares o reason s u :=
  fun absent => (h absent).trans (g ((h absent).absent absent))

theorem Spares.ite {s t u : State} {P : Prop} [Decidable P] (h : Spares o reason s t) (g : Spares o reason s u) :
    Spares o reason s (if P then t else u) := by
  split
  · exact h
  · exact g

theorem Spares.foldl {ι : Type} {f : State → ι → State} (h : ∀ u i, Spares o reason u (f u i)) (l : List ι) (s : State) :
    Spares o reason s (l.foldl f s) := by
  induction l generalizing s with
  | nil => exact fun _ => ⟨rfl, rfl, rfl, fun _ => id, fun _ => rfl, List.prefix_rfl, .refl _ s⟩
  | cons i l ih => exact (h s i).trans (ih _)

/-- Frames sent to other ports, and what is no concern of a port: the drain, the temperature and the rank. -/
theorem Spares.of_link {s t : State} (link : s.Absent o.port → t.links.look o.port = s.links.look o.port)
    (same : SameBut [.links, .drain, .refresh, .rank] s t) : Spares o reason s t := by
  have queues : t.queues = s.queues := same .queues (by decide)
  have banks : t.banks = s.banks := same .banks (by decide)
  have mover : t.mover = s.mover := same .mover (by decide)
  have fault : t.fault = s.fault := same .fault (by decide)
  refine fun absent => ⟨link absent, by rw [queues], by rw [mover], fun b => ?_, fun b => by rw [banks], by rw [fault],
    same.mono (by decide)⟩
  simp only [State.Revoked, banks, imp_self]

theorem Spares.of_same {s t : State} (same : SameBut [.drain, .refresh, .rank] s t) : Spares o reason s t := by
  have links : t.links = s.links := same .links (by decide)
  exact .of_link (fun _ => by rw [links]) (same.mono (by decide))

theorem Spares.refl (s : State) : Spares o reason s s := .of_same (.refl _ s)

theorem State.handFault_spares (s : State) (k : FaultKind) (p : Option Port) (b : Option Bank) (d : FaultDetail) :
    Spares o reason s (s.handFault k p b d) :=
  fun _ => ⟨rfl, rfl, rfl, fun _ => id, fun _ => rfl, (s.handFault_logs k p b d).list, fun x hx => by
    cases x <;> simp [Part.Agree] at hx ⊢⟩

/-! ### Revocations, with the evaluation that follows them (R17, R48, R79, R85, R86) -/

/-- The entries for a REVOKING bank evaluated (R11, R48, R52). -/
theorem State.reevaluate_spares {s : State} {b : Bank} {r : Revocation} (held : (s.banks.look b).state = .revoking r) :
    Spares o reason s (s.reevaluate b) := by
  rintro ⟨-, empty⟩
  have evaluated := s.reevaluate_evaluated b
  obtain ⟨link, -⟩ := State.reevaluate_quiet empty held
  obtain ⟨queue, mover⟩ := evaluated.untouched o.port (by simp [State.front, empty])
  refine ⟨link, queue, mover, fun x ⟨q, state, owner, why⟩ => ?_, fun x => ?_, evaluated.logs.list, evaluated.rest.mono (by decide)⟩
  · obtain ⟨q', state', owner', why'⟩ := evaluated.revoking state
    exact ⟨q', state', owner'.trans owner, why'.trans why⟩
  · by_cases same : x = b
    · rw [same, evaluated.revokedFrom]
    · rw [evaluated.others x same]

/-- A bank marked REVOKING, from another owner or for the reason. -/
theorem Spares.of_revocation {s t : State} {b : Bank} {r : Revocation}
    (marked : t.banks = s.banks.put b { s.banks.look b with state := .revoking r })
    (stands : s.Revoked o reason b → r.owner = o ∧ r.reason = reason) (list : t.fault.list = s.fault.list)
    (same : SameBut [.banks, .fault] s t) : Spares o reason s t := by
  have links : t.links = s.links := same .links (by decide)
  have queues : t.queues = s.queues := same .queues (by decide)
  have mover : t.mover = s.mover := same .mover (by decide)
  refine fun _ => ⟨by rw [links], by rw [queues], by rw [mover], fun x was => ?_, fun x => ?_, by rw [list], same.mono (by decide)⟩
  · rw [State.Revoked, marked, Table.look_put]
    split
    · rename_i here
      exact ⟨r, rfl, stands (here ▸ was)⟩
    · exact was
  · rw [marked, Table.look_put]
    split
    · rename_i here
      rw [here]
    · rfl

/-- A revocation of an owned bank for a reason that replaces another (R17). -/
theorem State.revoke_owned {s : State} {b : Bank} (owned : (s.banks.look b).state.owner? = some o) (replaces : reason.replaces = true) :
    ∃ r, r.owner = o ∧ r.reason = reason ∧ (s.revoke b reason).banks = s.banks.put b { s.banks.look b with state := .revoking r } := by
  cases held : (s.banks.look b).state with
  | closed =>
    rw [held] at owned
    cases owned
  | opened l =>
    rw [held] at owned
    cases owned
    exact ⟨_, rfl, rfl, by rw [s.revoke_opened b reason l held]⟩
  | revoking r =>
    rw [held] at owned
    cases owned
    refine ⟨{ r with reason := reason }, rfl, rfl, ?_⟩
    simp [State.revoke, held, replaces, State.modBank, Table.modify]

/-- A revocation records nothing by itself (R17). -/
theorem State.revoke_list (s : State) (b : Bank) (reason : RevokeReason) : (s.revoke b reason).fault.list = s.fault.list := by
  unfold State.revoke
  split
  · rfl
  · rfl
  · split <;> rfl

theorem State.revoke_sameBut (s : State) (b : Bank) (reason : RevokeReason) : SameBut [.banks, .fault] s (s.revoke b reason) := by
  intro x hx
  cases x <;> simp [Part.Agree] at hx ⊢

/-- One bank of a session that ends (R85, R86): its owner's port is left alone, and the bank is revoked if it is his. -/
theorem State.revokeOwned_spares (s : State) (b : Bank) (replaces : reason.replaces = true) :
    Spares o reason s (s.revokeOwned o reason b) ∧
      (s.Absent o.port → (s.banks.look b).state.owner? = some o → (s.revokeOwned o reason b).Revoked o reason b) := by
  by_cases owns : s.owns o b = true
  · have revokes : s.revokeOwned o reason b = (s.revoke b reason).reevaluate b := if_pos owns
    obtain ⟨r, owner, why, marked⟩ := State.revoke_owned (State.owns_iff.mp owns) replaces
    have held : ((s.revoke b reason).banks.look b).state = .revoking r := by rw [marked, Table.look_put_same]
    have first : Spares o reason s (s.revoke b reason) :=
      .of_revocation marked (fun _ => ⟨owner, why⟩) (s.revoke_list b reason) (s.revoke_sameBut b reason)
    have second : Spares o reason (s.revoke b reason) ((s.revoke b reason).reevaluate b) := State.reevaluate_spares held
    rw [revokes]
    exact ⟨first.trans second, fun absent _ => (second ((first absent).absent absent)).revoked b ⟨r, held, owner, why⟩⟩
  · have same : s.revokeOwned o reason b = s := if_neg owns
    rw [same]
    exact ⟨.refl s, fun _ owned => absurd (State.owns_iff.mpr owned) owns⟩

/-- The revocation of one bank leaves the other banks, and records nothing. -/
theorem State.revokeOwned_others (s : State) (o : Owner) (reason : RevokeReason) {b x : Bank} (other : x ≠ b) :
    (s.revokeOwned o reason b).banks.look x = s.banks.look x := by
  unfold State.revokeOwned
  split
  · rw [(State.reevaluate_evaluated _ b).others x other]
    unfold State.revoke
    split
    · rfl
    · exact Table.look_modify_other _ _ _ _ (Ne.symm other)
    · split
      · exact Table.look_modify_other _ _ _ _ (Ne.symm other)
      · rfl
  · rfl

theorem State.revokeOwned_list (s : State) (o : Owner) (reason : RevokeReason) (b : Bank) :
    (s.revokeOwned o reason b).fault.list = s.fault.list := by
  unfold State.revokeOwned
  split
  · rw [(State.reevaluate_evaluated _ b).fault, s.revoke_list b reason]
  · rfl

/-- The banks of a session that ends, one after the other (R85, R86). -/
theorem State.revokesOwned_spares (replaces : reason.replaces = true) (l : List Bank) {s : State} (absent : s.Absent o.port) :
    LeftAlone o reason s (l.foldl (State.revokeOwned o reason) s) ∧
      ∀ b ∈ l, (s.banks.look b).state.owner? = some o → (l.foldl (State.revokeOwned o reason) s).Revoked o reason b := by
  have alone (u : State) (m : List Bank) : Spares o reason u (m.foldl (State.revokeOwned o reason) u) :=
    .foldl (fun u b => (u.revokeOwned_spares b replaces).1) m u
  refine ⟨alone s l absent, ?_⟩
  induction l generalizing s with
  | nil => exact nofun
  | cons a l ih =>
    obtain ⟨first, revokes⟩ := s.revokeOwned_spares (o := o) a replaces
    have still := (first absent).absent absent
    intro b mem owned
    by_cases here : b = a
    · subst here
      exact (alone _ l still).revoked b (revokes absent owned)
    · exact ih still b ((List.mem_cons.mp mem).resolve_left here) (by rwa [s.revokeOwned_others o reason here])

/-! ### Grace end and the start of a drain (R75, R76, R79) -/

/-- Grace end's part of one bank: an OPEN one is revoked (R79). -/
theorem State.graceRevoke_spares (s : State) (cause : RevokeReason) (b : Bank) : Spares o reason s (s.graceRevoke cause b) := by
  cases held : (s.banks.look b).state with
  | opened l =>
    have marked : (s.revoke b cause).banks = s.banks.put b { s.banks.look b with
        state := .revoking ⟨l.row, l.owner, l.contended, cause⟩ } := by rw [s.revoke_opened b cause l held]
    have stands : s.Revoked o reason b → l.owner = o ∧ cause = reason := by
      rintro ⟨r, state, -⟩
      rw [held] at state
      cases state
    have first : Spares o reason s (s.revoke b cause) := .of_revocation marked stands (s.revoke_list b cause) (s.revoke_sameBut b cause)
    have now : (((s.revoke b cause).handFault .drainRevoke (some l.owner.port) (some b) (.reason cause)).banks.look b).state =
        .revoking ⟨l.row, l.owner, l.contended, cause⟩ := by simp [marked]
    rw [State.graceRevoke_opened held]
    exact (first.trans (State.handFault_spares _ _ _ _ _)).trans (State.reevaluate_spares now)
  | closed =>
    rw [State.graceRevoke_shut (by rw [held]; rfl)]
    exact .refl s
  | revoking r =>
    rw [State.graceRevoke_shut (by rw [held]; rfl)]
    exact .refl s

theorem State.setDrain_spares (s : State) (d : Drain) : Spares o reason s (s.setDrain d) := by
  refine .of_same fun x hx => ?_
  cases x <;> simp [Part.Agree] at hx ⊢

theorem State.completeDrain_spares (s : State) : Spares o reason s s.completeDrain := by
  refine .of_same fun x hx => ?_
  cases x <;> simp [Part.Agree] at hx ⊢

theorem State.endGrace_spares (s : State) : Spares o reason s s.endGrace := by
  have revoked := Spares.foldl (fun u b => u.graceRevoke_spares (o := o) (reason := reason) s.drain.reason b) allBanks s
  rw [State.endGrace]
  exact (revoked.trans (State.setDrain_spares _ _)).trans (State.completeDrain_spares _)

theorem State.beginDrain_spares (s : State) (u : Purpose) (urgent : Bool) : Spares o reason s (s.beginDrain u urgent) := by
  rw [s.beginDrain_eq]
  exact .ite ((s.setDrain_spares _).trans (State.endGrace_spares _)) ((s.setDrain_spares _).trans (State.completeDrain_spares _))

/-- The DRAIN notices of a start go to ports that had a session then (R76). -/
theorem State.sendDrain_spares (s : State) {old : State} (none : old.epoch? o.port = none) (u : Purpose) (urgent : Bool) :
    Spares o reason s (s.sendDrain old u urgent) := by
  have owns : old.ownsOpen o.port = false := by simp only [State.ownsOpen, none]
  refine .of_link (fun _ => ?_) fun x hx => ?_
  · rw [State.sendDrain_links, if_neg (ne_true_of_eq_false owns)]
  · cases x <;> simp [Part.Agree] at hx ⊢

/-- A purpose added to a drain that stands (R75, R78). -/
theorem State.addPurpose_spares {s : State} (active : s.drain.phase ≠ .none) (u : Purpose) (urgent : Bool) :
    Spares o reason s (s.addPurpose u urgent) := by
  unfold State.addPurpose
  split
  · exact absurd ‹_› active
  · exact .ite ((s.setDrain_spares _).trans (State.endGrace_spares _)) (s.setDrain_spares _)
  · exact s.setDrain_spares _
  · exact s.setDrain_spares _

/-! ### Unanimity and temperature (R102, R103, R126 to R131) -/

theorem State.setBegun_spares (s : State) (b : Bool) : Spares o reason s (s.setBegun b) := by
  refine .of_same fun x hx => ?_
  cases x <;> simp [Part.Agree] at hx ⊢

theorem State.judgeIdle_spares (s : State) : Spares o reason s s.judgeIdle := by
  refine .of_same fun x hx => ?_
  cases x <;> simp [Part.Agree] at hx ⊢

theorem State.wantExit_spares (s : State) : Spares o reason s s.wantExit := by
  refine .of_same fun x hx => ?_
  cases x <;> simp [Part.Agree] at hx ⊢

/-- A judgement of unanimity, with the happening's other effects in between (R76, R128). -/
theorem State.judgeUnanimity_spares (s : State) {others : State → State} (ho : ∀ v, Spares o reason v (others v)) :
    Spares o reason s (s.judgeUnanimity others) := by
  have wanted (v : State) : Spares o reason v (others v.wantExit.judgeIdle) :=
    (v.wantExit_spares.trans (State.judgeIdle_spares _)).trans (ho _)
  have marked := s.setBegun_spares (o := o) (reason := reason) true
  obtain e | ⟨-, -, e⟩ | ⟨-, -, active, e⟩ | ⟨-, -, -, e⟩ := s.judgeUnanimity_cases others <;> rw [e]
  · exact ho s
  · exact (((s.setDrain_spares _).trans (State.setBegun_spares _ false)).trans (State.judgeIdle_spares _)).trans (ho _)
  · exact (marked.trans (State.addPurpose_spares (s := s.setBegun true) active .sleep false)).trans (wanted _)
  · intro absent
    exact ((marked.trans (State.beginDrain_spares _ .sleep false)).trans (wanted _)).trans (State.sendDrain_spares _ absent.1 .sleep false)
      absent

/-- A change of the thermal state is told to the ports that have a session (R103). -/
theorem State.thermalChange_spares (s : State) (t : Thermal) (c : ThermalCause) : Spares o reason s (s.thermalChange t c) := by
  let u : State := { s with refresh := { s.refresh with thermal := t } }
  let v := u.noticeAll (.thermal t)
  let w := v.handFault (if t = .hot then .thermalHot else .thermalClear) c.port? none (.cause c)
  have set : Spares o reason s u := .of_same fun x hx => by cases x <;> simp [Part.Agree, u] at hx ⊢
  have told : Spares o reason u v := by
    refine .of_link (fun ⟨gone, _⟩ => ?_) fun x hx => ?_
    · simp only [v, State.noticeAll_told, State.told, Table.look_ofFn, gone]
    · cases x <;> simp [Part.Agree, v] at hx ⊢
  have recorded : Spares o reason v w := v.handFault_spares _ _ _ _
  have timed : Spares o reason w { w with refresh := { w.refresh with timer := w.timerAfterChange t } } :=
    .of_same fun x hx => by cases x <;> simp [Part.Agree] at hx ⊢
  exact ((set.trans told).trans recorded).trans timed

theorem State.reportThermal_spares (s : State) : Spares o reason s s.reportThermal := by
  have woken : Spares o reason s (if s.refresh.thermal = .hot then s.wantWake else s) :=
    .ite (.of_same (s.wantWake_sameBut.mono (by decide))) (.refl s)
  exact (woken.trans (.of_same ((State.judgeHotExit_sameBut _).mono (by decide)))).trans (State.judgeUnanimity_spares _ .refl)

theorem State.evalThermal_spares (s : State) (c : ThermalCause) : Spares o reason s (s.evalThermal c id) :=
  .ite (.refl s) ((s.thermalChange_spares _ c).trans (State.reportThermal_spares _))

end

end Sys2Proof.Machine
end

section
/-! PROOFS. The end of a session (R143) as its port, its banks and the fault list show it, and a JOIN that replaces a session (R140): O23. -/

namespace Sys2Proof.Machine

/-! ### The end of a session (R43, R134, R143, R145, R149, R153) -/

/-- A session that is ending, up to its revocations: its link, queue and data discarded, and the revoked-from records that name it
forgotten. -/
def State.discarded (s : State) (p : Port) (e : Byte) (c : SessionEnd) : State :=
  (((s.discardOutbound p).modLink p c.link).discardQueue p).forget ⟨p, e⟩

/-- What the discards make of the port's link, queue and data, and of the revoked-from records. -/
theorem State.discarded_parts (s : State) (p : Port) (e : Byte) (c : SessionEnd) :
    (s.discarded p e c).links.look p = c.link { s.links.look p with outbound := [] } ∧
      (s.discarded p e c).queues.look p = ⟨[], []⟩ ∧
      (s.discarded p e c).mover.ports.look p =
        ⟨(s.mover.ports.look p).slots.map WriteSlot.dropHeld, (s.mover.ports.look p).spaces.map ReadSpace.dropBuffered⟩ ∧
      (∀ b, ((s.discarded p e c).banks.look b).state = (s.banks.look b).state) ∧
      (∀ b x, ((s.discarded p e c).banks.look b).revokedFrom = some x → x.owner ≠ ⟨p, e⟩) ∧
      SameBut [.links, .queues, .banks, .mover] s (s.discarded p e c) := by
  refine ⟨?_, ?_, ?_, fun b => ?_, fun b x found => ?_, fun x hx => ?_⟩
  · simp [State.discarded, State.discardQueue, State.discardOutbound, State.modLink]
  · simp [State.discarded, State.discardQueue, State.modQueue, PortQueue.reset]
  · simp [State.discarded, State.discardQueue, State.discardOutbound, State.modMover]
  · simp [State.discarded, State.forget, State.discardQueue]
  · rw [State.discarded, State.forget, Table.look_map, Option.filter_eq_some_iff] at found
    simpa using found.2
  · cases x <;> simp [Part.Agree, State.discarded, State.discardQueue] at hx ⊢

/-- The port of a session that is ending has no session and no request. -/
theorem State.discarded_absent (s : State) (p : Port) (e : Byte) (c : SessionEnd) : (s.discarded p e c).Absent p := by
  obtain ⟨link, queue, -⟩ := s.discarded_parts p e c
  rw [State.Absent, State.epoch?, link, queue]
  cases c <;> exact ⟨rfl, rfl⟩

theorem SessionEnd.reason_replaces (c : SessionEnd) : c.reason.replaces = true := by cases c <;> rfl

/-- The port's temperature removed (R143 step 7). -/
def State.forgetTemperature (s : State) (p : Port) : State :=
  { s with refresh := { s.refresh with table := s.refresh.table.put p none } }

/-- The record of a session's end, if its kind of end has one (R143 step 5). -/
def State.recordEnd (s : State) (p : Port) (e : Byte) (c : SessionEnd) : State :=
  match c.fault? with
  | none => s
  | some k => s.handFault k (some p) none (.epoch e)

/-- The banks of a session that is ending revoked, its end recorded, and its vote removed (R143 steps 4 to 6). -/
def State.revokedAll (s : State) (p : Port) (e : Byte) (c : SessionEnd) : State :=
  ((allBanks.foldl (State.revokeOwned ⟨p, e⟩ c.reason) (s.discarded p e c)).recordEnd p e c).setVote p none

theorem State.recordEnd_spares {o : Owner} {reason : RevokeReason} (s : State) (p : Port) (e : Byte) (c : SessionEnd) :
    Spares o reason s (s.recordEnd p e c) := by
  unfold State.recordEnd
  split
  · exact .refl s
  · exact s.handFault_spares _ _ _ _

theorem State.recordEnd_list (s : State) (p : Port) (e : Byte) {c : SessionEnd} {k : FaultKind} (kind : c.fault? = some k)
    (room : s.fault.list.length < 16) : (s.recordEnd p e c).fault.list = s.fault.list ++ [⟨k, some p, none, .epoch e, s.time48⟩] := by
  simp only [State.recordEnd, kind]
  rw [State.handFault, FaultUnit.hand_list, if_pos room]

theorem State.endSession_eq (s : State) (p : Port) (e : Byte) (c : SessionEnd) : s.endSession p e c =
    (s.revokedAll p e c).judgeUnanimity fun v => (v.forgetTemperature p).evalThermal (.sessionEnd p) id := rfl

theorem State.revokesOwned_list (o : Owner) (reason : RevokeReason) (l : List Bank) (s : State) :
    (l.foldl (State.revokeOwned o reason) s).fault.list = s.fault.list :=
  foldl_keeps (fun v : State => v.fault.list) _ (fun v b => v.revokeOwned_list o reason b) l s

/-- The revocations of a session that is ending, and the record of its end (R85, R86, R143, R165). -/
theorem State.revokedAll_parts (s : State) (p : Port) (e : Byte) (c : SessionEnd) :
    LeftAlone ⟨p, e⟩ c.reason (s.discarded p e c) (s.revokedAll p e c) ∧
      (∀ b, (s.banks.look b).state.owner? = some ⟨p, e⟩ → (s.revokedAll p e c).Revoked ⟨p, e⟩ c.reason b) ∧
      ∀ k, c.fault? = some k → s.fault.list.length < 16 →
        ⟨k, some p, none, .epoch e, s.time48⟩ ∈ (s.revokedAll p e c).fault.list := by
  obtain ⟨-, -, -, banks, -, same⟩ := s.discarded_parts p e c
  have absent := s.discarded_absent p e c
  obtain ⟨alone, revoked⟩ := State.revokesOwned_spares (o := ⟨p, e⟩) c.reason_replaces allBanks absent
  have list := State.revokesOwned_list ⟨p, e⟩ c.reason allBanks (s.discarded p e c)
  rw [State.revokedAll]
  revert alone revoked list
  generalize allBanks.foldl (State.revokeOwned ⟨p, e⟩ c.reason) (s.discarded p e c) = w
  intro alone revoked list
  have time : w.time = s.time := (alone.rest .time (by decide)).trans (same .time (by decide))
  have fault : (s.discarded p e c).fault = s.fault := same .fault (by decide)
  rw [fault] at list
  have silent : Spares ⟨p, e⟩ c.reason (w.recordEnd p e c) ((w.recordEnd p e c).setVote p none) :=
    .of_same fun x hx => by cases x <;> simp [Part.Agree] at hx ⊢
  have after := (w.recordEnd_spares p e c).trans silent (alone.absent absent)
  refine ⟨alone.trans after, fun b owned => ?_, fun k kind room => ?_⟩
  · exact after.revoked b (revoked b (mem_allBanks b) (by rwa [banks]))
  · have recorded := w.recordEnd_list p e kind (list ▸ room)
    have now : w.time48 = s.time48 := congrArg (BitVec.ofNat 48) time
    rw [State.setVote, recorded, now]
    exact List.mem_append_right _ List.mem_cons_self

/-- A judgement of unanimity leaves the temperatures to the happening's other effects (R76, R128). -/
theorem State.judgeUnanimity_table (s : State) (others : State → State) :
    ∃ v, (s.judgeUnanimity others).refresh.table = (others v).refresh.table := by
  obtain e | ⟨-, -, e⟩ | ⟨-, -, -, e⟩ | ⟨-, -, -, e⟩ := s.judgeUnanimity_cases others <;> rw [e]
  · exact ⟨_, rfl⟩
  · exact ⟨_, rfl⟩
  · exact ⟨_, rfl⟩
  · exact ⟨((s.setBegun true).beginDrain .sleep false).wantExit.judgeIdle, by simp⟩

/-- An evaluation of the thermal state leaves the temperatures (R102, R103). -/
theorem State.evalThermal_table (s : State) (c : ThermalCause) : (s.evalThermal c id).refresh.table = s.refresh.table := by
  rw [State.evalThermal, apply_ite (fun v : State => v.refresh.table)]
  simp [State.thermalChange]

/-- What the end of a session leaves (R143), whatever else its happening brings about: the port's link, queue and data, its banks being
revoked, no record of it on a bank, the record of its end, and no temperature. -/
structure SessionEnded (p : Port) (e : Byte) (c : SessionEnd) (s t : State) : Prop where
  link : t.links.look p = c.link { s.links.look p with outbound := [] }
  queue : t.queues.look p = ⟨[], []⟩
  slots : (t.mover.ports.look p).slots = (s.mover.ports.look p).slots.map WriteSlot.dropHeld
  spaces : (t.mover.ports.look p).spaces = (s.mover.ports.look p).spaces.map ReadSpace.dropBuffered
  revoked : ∀ b, (s.banks.look b).state.owner? = some ⟨p, e⟩ → t.Revoked ⟨p, e⟩ c.reason b
  forgotten : ∀ b x, (t.banks.look b).revokedFrom = some x → x.owner ≠ ⟨p, e⟩
  recorded : ∀ k, c.fault? = some k → s.fault.list.length < 16 → ⟨k, some p, none, .epoch e, s.time48⟩ ∈ t.fault.list
  table : t.refresh.table.look p = none
  name : t.rank.state.name = s.rank.state.name
  rest : SameBut [.links, .queues, .banks, .drain, .mover, .refresh, .rank, .fault] s t

theorem State.endSession_ended (s : State) (p : Port) (e : Byte) (c : SessionEnd) : SessionEnded p e c s (s.endSession p e c) := by
  obtain ⟨link, queue, mover, -, forgotten, same⟩ := s.discarded_parts p e c
  obtain ⟨before, revoked, recorded⟩ := s.revokedAll_parts p e c
  have absent := before.absent (s.discarded_absent p e c)
  have cleared (v : State) : Spares ⟨p, e⟩ c.reason v (v.forgetTemperature p) :=
    .of_same fun x hx => by cases x <;> simp [Part.Agree, State.forgetTemperature] at hx ⊢
  have after : LeftAlone ⟨p, e⟩ c.reason (s.revokedAll p e c) (s.endSession p e c) := by
    rw [State.endSession_eq]
    exact State.judgeUnanimity_spares _ (fun v => (cleared v).trans (State.evalThermal_spares _ _)) absent
  have alone := before.trans after
  have data := alone.mover.trans mover
  refine ⟨alone.link.trans link, alone.queue.trans queue, congrArg MoverPort.slots data, congrArg MoverPort.spaces data,
    fun b owned => after.revoked b (revoked b owned), fun b x found => ?_, fun k kind room => after.list.subset (recorded k kind room),
    ?_, (s.endSession_steady p e c).name, (same.mono (by decide)).trans alone.rest⟩
  · rw [alone.revokedFrom] at found
    exact forgotten b x found
  · obtain ⟨v, table⟩ := (s.revokedAll p e c).judgeUnanimity_table fun v => (v.forgetTemperature p).evalThermal (.sessionEnd p) id
    rw [State.endSession_eq, table, State.evalThermal_table]
    exact Table.look_put_same _ _ _

/-! ### JOIN in a session (R140) -/

theorem State.answered_sameBut (s : State) (p : Port) (frames : List OutFrame) : SameBut [.links] s (s.answered p frames) := by
  intro x hx
  cases x <;> simp [Part.Agree, State.answered] at hx ⊢

/-- A JOIN of revision 1 in sequence in a session ends the session and opens another (R140). -/
theorem exec_join_rejoin {s : State} {p : Port} {h : Header} {old : Byte} (current : s.epoch? p = some old)
    (seq : h.seq = (s.links.look p).expected) : exec (.join p h 1#8) s =
      .next ((((s.answered p []).endSession p old .rejoin).openSession p h.tag).settle) := by
  have up : (s.links.look p).session.laneUp = true := by
    refine (Session.laneUp_iff _).mpr fun down => ?_
    rw [State.epoch?, down] at current
    cases current
  have counted : ((s.answered p []).links.look p).session.epoch? = some old := (s.answered_epoch p p []).trans current
  have passes : s.sessionCheck p h true = none := State.sessionCheck_some current h true
  simp only [exec, execJoin, s.receive_eq p h true _ up seq, passes, State.takeJoin, counted]
  rfl

/-- A session opened as the state shows it: up to the idle timer, `State.joined` with the sleep entry withdrawn and the rank told to wake
(R83, R128, R131, R139). -/
theorem State.openSession_exact (s : State) (p : Port) (tag : Byte) : ∃ i, s.openSession p tag = State.withIdle { s.joined p tag with
    rank := { (s.joined p tag).rank with sleepBegun := false, state := s.rank.state.woken }
    drain := s.drainAwake } i := by
  obtain ⟨i, judged⟩ := State.judgeUnanimity_awake_eq (s := s.joined p tag) (p := p) (Table.look_put_same _ _ _)
  exact ⟨i, by rw [State.openSession_eq, judged, State.wantWake_eq]; rfl⟩

/-- A session opened on the port (R139): the new epoch, what is sent under it, the vote, and no sleep entry. -/
structure SessionOpened (p : Port) (tag : Byte) (s t : State) : Prop where
  epochCounter : t.epochCounter = nextEpoch s.epochCounter
  link : t.links.look p = { s.links.look p with
    session := .joined (nextEpoch s.epochCounter)
    outbound := (s.links.look p).outbound ++
      [⟨nextEpoch s.epochCounter, tag, .welcome⟩, ⟨nextEpoch s.epochCounter, 0, .rankState s.rank.state.name⟩] }
  vote : t.rank.votes.look p = some .awake
  awake : t.rank.sleepBegun = false
  rest : SameBut [.epochCounter, .links, .drain, .rank] s t

theorem State.openSession_opened (s : State) (p : Port) (tag : Byte) : SessionOpened p tag s (s.openSession p tag) := by
  obtain ⟨i, opened⟩ := s.openSession_exact p tag
  rw [opened]
  refine ⟨rfl, Table.look_put_same _ _ _, Table.look_put_same _ _ _, rfl, fun x hx => ?_⟩
  cases x <;> simp [Part.Agree, State.withIdle, State.joined] at hx ⊢

end Sys2Proof.Machine

namespace Sys2Proof.Proofs

open Sys2Proof Sys2Proof.Machine

/-- Settles O23: the old session's end leaves what `SessionEnded` says, the new session is opened on that as `SessionOpened` says, and the
end of the happening assesses it. -/
theorem rejoinReplacesTheSession : Obligations.RejoinReplacesTheSession := by
  intro s p h old current seq l e
  have counted : SameBut [.links] s (s.answered p []) := s.answered_sameBut p []
  have ended := (s.answered p []).endSession_ended p old .rejoin
  rw [exec_join_rejoin current seq]
  generalize (s.answered p []).endSession p old .rejoin = v at ended ⊢
  obtain ⟨ends, queue, slots, spaces, revoked, forgotten, recorded, table, name, left⟩ := ended
  have opened := v.openSession_opened p h.tag
  generalize v.openSession p h.tag = w at opened ⊢
  obtain ⟨epochCounter, link, vote, awake, elsewhere⟩ := opened
  have settled := w.settle_sameBut
  obtain ⟨i, idle⟩ := w.settle_rank
  have kept : SameBut [.epochCounter, .links, .queues, .drain, .rank] v w.settle :=
    (elsewhere.mono (by decide)).trans (settled.mono (by decide))
  have banks : w.settle.banks = v.banks := kept .banks (by decide)
  have mover : w.settle.mover = v.mover := kept .mover (by decide)
  have refresh : w.settle.refresh = v.refresh := kept .refresh (by decide)
  have fault : w.settle.fault = v.fault := kept .fault (by decide)
  have links : w.settle.links = w.links := settled .links (by decide)
  have epochs : w.settle.epochCounter = w.epochCounter := settled .epochCounter (by decide)
  have queues : w.queues = v.queues := elsewhere .queues (by decide)
  have counter : v.epochCounter = s.epochCounter := left .epochCounter (by decide)
  refine ⟨w.settle, rfl, ?_, ?_, State.settle_queue_empty (by rw [queues, queue]), by rw [idle]; exact vote,
    by rw [idle]; exact awake, by rw [refresh, table], by rw [mover, slots]; rfl, by rw [mover, spaces]; rfl, ?_, ?_, ?_, ?_⟩
  · rw [epochs, epochCounter, counter]
    rfl
  · rw [links, link, ends, name, counter]
    simp only [State.answered, Table.look_put_same]
    rfl
  · rw [banks]
    exact revoked
  · rw [banks]
    exact forgotten
  · rw [fault]
    exact recorded .portRejoin rfl
  · exact ((counted.mono (by decide)).trans (left.mono (by decide))).trans (kept.mono (by decide))

end Sys2Proof.Proofs
end

section
/-! PROOFS. COMMIT by the checks of the staged copy, and the management port's plain writes, its capturing read and what a read of each
byte of the window returns (R156, R159 to R162, R171, R175, R176): O58 and O60. -/

namespace Sys2Proof.Machine

/-! ### COMMIT (R159, R160, R162) -/

theorem findIdx?_failed_of_pass {l : List Bool} (pass : ∀ x ∈ l, x = true) : l.findIdx? (fun ok => !ok) = none :=
  List.findIdx?_eq_none_iff.mpr fun x hx => by simp [pass x hx]

/-- A copy that passes every check has no first failure (R160). -/
theorem Profile.firstFailure_of_pass {p : Profile} (pass : ∀ x ∈ p.checks, x = true) : p.firstFailure = none := by
  rw [Profile.firstFailure, findIdx?_failed_of_pass pass, Option.map_none]

/-- The first failed check is the one after those that pass, counted from 1 (R160). -/
theorem Profile.firstFailure_of_fail {p : Profile} {before after : List Bool} (split : p.checks = before ++ false :: after)
    (pass : ∀ x ∈ before, x = true) : p.firstFailure = some (before.length + 1) := by
  rw [Profile.firstFailure, split, List.findIdx?_append, findIdx?_failed_of_pass pass]
  simp [List.findIdx?_cons]

theorem exec_commit_notOffline {s : State} (state : s.rank.state ≠ .offline) : exec .commit s = .next (s.setCommit .notOffline) :=
  if_pos state

theorem exec_commit_pass {s : State} (offline : s.rank.state = .offline) (pass : s.profile.staged.firstFailure = none) :
    exec .commit s = .next s.applyCommit := by
  change execCommit s = _
  rw [execCommit, if_neg (not_not.mpr offline), pass]

theorem exec_commit_fail {s : State} {n : Nat} (offline : s.rank.state = .offline)
    (fail : s.profile.staged.firstFailure = some n) : exec .commit s = .next (s.setCommit (.commitRejected n)) := by
  change execCommit s = _
  rw [execCommit, if_neg (not_not.mpr offline), fail]

/-! ### Bytes of a value (R175) -/

/-- A byte of a field's value is the byte of the stored word at that place. -/
theorem byteOf_toNat (v : BitVec 32) (j : Nat) : byteOf v.toNat j = v.extractLsb' (8 * j) 8 := rfl

theorem getLsbD_byteMask (k : Nat) : (0xFF#32).getLsbD k = decide (k < 8) := by
  rw [BitVec.getLsbD, BitVec.toNat_ofNat, show 0xFF % 2 ^ 32 = 2 ^ 8 - 1 by rfl, Nat.testBit_two_pow_sub_one]

/-- Each bit of a word with a byte replaced: the new byte's in its place, the old word's elsewhere (R156). -/
theorem getLsbD_withByte (v : BitVec 32) (i : Fin 4) (b : Byte) (k : Nat) : (withByte v i b).getLsbD k =
    if 8 * i.val ≤ k ∧ k < 8 * i.val + 8 then b.getLsbD (k - 8 * i) else v.getLsbD k := by
  have inWord := i.isLt
  simp only [withByte, BitVec.getLsbD_or, BitVec.getLsbD_and, BitVec.getLsbD_not, BitVec.getLsbD_shiftLeft,
    BitVec.getLsbD_setWidth, getLsbD_byteMask]
  split
  · next inside =>
    have : k < 32 := by omega
    have : ¬ k < 8 * i := by omega
    have : k - 8 * i < 8 := by omega
    have : k - 8 * i < 32 := by omega
    simp [*]
  · next outside =>
    by_cases below : k < 8 * i
    · have : k < 32 := by omega
      simp [*]
    · have above : ¬ k - 8 * i < 8 := by omega
      rw [b.getLsbD_of_ge (k - 8 * i) (by omega)]
      by_cases k < 32
      · simp [*]
      · rw [v.getLsbD_of_ge k (by omega)]
        simp

/-- A staged byte stands as written, and the other bytes of its field are kept (R156). -/
theorem byteOf_withByte (v : BitVec 32) (i j : Fin 4) (b : Byte) :
    byteOf (withByte v i b).toNat j = if j = i then b else byteOf v.toNat j := by
  apply BitVec.eq_of_getLsbD_eq
  intro k hk
  simp only [byteOf_toNat, BitVec.getLsbD_extractLsb', hk, decide_true, Bool.true_and, getLsbD_withByte]
  by_cases same : j = i
  · subst same
    rw [if_pos (by omega), if_pos rfl, Nat.add_sub_cancel_left]
  · have : j.val ≠ i.val := fun h => same (Fin.ext h)
    rw [if_neg (by omega), if_neg same, BitVec.getLsbD_extractLsb', decide_eq_true hk, Bool.true_and]

/-! ### The window as its registers give it (Tables 13-6 to 13-8) -/

/-- A register as the tables give it in a state: address, size, value. -/
def Register.row (s : State) (r : Register) : Nat × Nat × Nat := (r.base, r.size, r.value s)

theorem map_row_registerRow {α : Type} (s : State) (a n : Nat) (l : List α) (v : α → State → Nat) :
    (registerRow a n l v).map (Register.row s) = tableRow a n l fun x => v x s := by
  simp [registerRow, tableRow, Register.row]

theorem State.remaining?_eq_ckTo (s : State) (t : Option Nat) : s.remaining? t = s.ckTo t := by cases t <;> rfl

theorem State.headField_eq (s : State) (f : FaultRecord → Nat) : s.headField f = (s.fault.list.head?.map f).getD 0 := by
  unfold State.headField
  cases s.fault.list <;> rfl

theorem State.oldestField_eq (s : State) (p : Port) (f : Entry → Nat) :
    s.oldestField p f = ((s.queues.look p).entries.head?.map f).getD 0 := by
  unfold State.oldestField
  cases (s.queues.look p).entries <;> rfl

theorem thermalEntryCode_eq (t : Option Int) : thermalEntryCode t = (t.map fun x => (BitVec.ofInt 16 x).toNat).getD 0x8000 := by
  cases t <;> rfl

/-- The purposes' code has one bit per purpose (Table 13-7). -/
theorem Purposes.code_toNat (u : Purposes) :
    u.code.toNat = bit u.refresh + 2 * bit u.calibrate + 4 * bit u.sleep + 8 * bit u.stop := by
  obtain ⟨refresh, calibrate, sleep, stop⟩ := u
  revert refresh calibrate sleep stop
  decide

theorem State.windowCount_eq (s : State) :
    s.windowCount = (s.holds.window.filter fun t => decide (s.time < t + s.prof.tWS)).length :=
  List.countP_eq_length_filter

theorem State.burstCount_eq (s : State) :
    s.burstCount = (s.holds.bursts.filter fun b => decide (s.time < b.start + 4)).length :=
  List.countP_eq_length_filter

/-- The registers of Table 13-6 without the rank and the port views. -/
theorem State.plainWindow_eq (s : State) : s.plainWindow =
    (controlRegisters ++ faultView ++ rankCounterView ++ profileView ++ bankView).map (Register.row s) := by
  simp only [controlRegisters, faultView, rankCounterView, profileView, bankView, State.plainWindow, List.map_append,
    List.map_cons, List.map_nil, map_row_registerRow, Register.row, State.headField_eq, List.append_assoc]
  rfl

/-- The registers of Table 13-7. -/
theorem State.rankWindow_eq (s : State) : s.rankWindow = rankStatusView.map (Register.row s) := by
  simp only [rankStatusView, State.rankWindow, List.map_append, List.map_cons, List.map_nil, map_row_registerRow, Register.row,
    State.remaining?_eq_ckTo, Purposes.code_toNat, State.windowCount_eq, State.burstCount_eq, thermalEntryCode_eq]
  rfl

/-- The registers of Table 13-8. -/
theorem State.portWindow_eq (s : State) : s.portWindow = fun p => (portView p).map (Register.row s) := by
  funext p
  simp only [portView, State.portWindow, List.map_cons, List.map_nil, Register.row, State.oldestField_eq]
  rfl

/-- What the tables give is what the registers give, in another order. -/
theorem State.mem_window_iff (s : State) (x : Nat × Nat × Nat) : x ∈ s.window ↔ ∃ r ∈ registers, r.row s = x := by
  have rows : s.window = (controlRegisters ++ faultView ++ rankCounterView ++ profileView ++ bankView ++ rankStatusView ++
      allPorts.flatMap portView).map (Register.row s) := by
    simp only [State.window, State.plainWindow_eq, State.rankWindow_eq, State.portWindow_eq, List.map_append, List.map_flatMap]
  have same (r : Register) : r ∈ controlRegisters ++ faultView ++ rankCounterView ++ profileView ++ bankView ++ rankStatusView ++
      allPorts.flatMap portView ↔ r ∈ registers := by
    simp only [registers, List.mem_append]
    tauto
  simp only [rows, List.mem_map, same]

/-! ### Reads of one byte (R171, R175, R176) -/

/-- With no capture standing a read returns a byte of the present value (R175). -/
theorem State.readByte_present {s : State} {r : Register} {i : Nat} (named : r ∈ registers) (inside : i < r.size)
    (idle : s.capture = none) : s.readByte (r.base + i) = byteOf (r.value s) i := by
  rw [State.readByte, registerAt_of_mem named _ (by omega) (by omega), idle]
  simp only [Nat.add_sub_cancel_left]

/-- A read of a higher byte of the register captured returns the byte captured (R176). -/
theorem State.readByte_captured {s u : State} {r : Register} {i : Nat} (named : r ∈ registers) (higher : 0 < i)
    (inside : i < r.size) (captured : u.capture = some ⟨r.base, r.bytes s⟩) : u.readByte (r.base + i) = byteOf (r.value s) i := by
  rw [State.readByte, registerAt_of_mem named _ (by omega) (by omega), captured]
  simp [higher, inside, Register.bytes]

/-- An address that names no register reads 00H (R171). -/
theorem State.readByte_unnamed (s : State) {a : Nat} (unnamed : ∀ r ∈ registers, a < r.base ∨ r.base + r.size ≤ a) :
    s.readByte a = 0 := by
  rw [State.readByte, registerAt_eq_none a unnamed]

/-! ### The commands of the management port (R156, R171, R176) -/

theorem exec_mgmtWriteBad {address : BitVec 16} {value : Byte} (s : State) (bad : badWrite address.toNat value = true) :
    exec (.mgmtWriteBad address value) s = .next { s with fault := { s.fault with mgmtError := true } } :=
  if_pos bad

theorem exec_mgmtErrorClear (s : State) (value : Byte) : exec (.mgmtErrorClear value) s =
    .next { s with fault := { s.fault with mgmtError := s.fault.mgmtError && !value.getLsbD 0 } } := by
  change execMgmtErrorClear value s = _
  unfold execMgmtErrorClear
  cases value.getLsbD 0 <;> simp

/-- An address that a capture is of is the lowest of a wider register (R176). -/
theorem captureAt_eq_some {a : Nat} {r : Register} (h : captureAt a = some r) : r ∈ registers ∧ r.base = a ∧ 1 < r.size := by
  obtain ⟨named, place⟩ := Option.filter_eq_some_iff.mp h
  simp only [Bool.and_eq_true, decide_eq_true_eq] at place
  exact ⟨List.mem_of_find?_eq_some named, place⟩

theorem exec_registerCapture {address : BitVec 16} {r : Register} (s : State) (h : captureAt address.toNat = some r) :
    exec (.registerCapture address) s = .next { s with capture := some ⟨address.toNat, r.bytes s⟩ } := by
  change Host.Outcome.next (s.captured address) = _
  rw [State.captured, h]

/-! ### Codes (R175, Tables 13-5, 13-7 and 13-8) -/

/-- The codes stand table by table, and in each table value by value. -/
theorem viewCodes : ViewCodes := by
  and_intros <;> intros <;> and_intros <;> rfl

end Sys2Proof.Machine

namespace Sys2Proof.Proofs

open Sys2Proof Sys2Proof.Machine

/-- Settles O58: refused outside OFFLINE; in OFFLINE by the first failure of the staged copy's checks. -/
theorem commitValidatesTheStagedCopy : Obligations.CommitValidatesTheStagedCopy := by
  intro s answered
  refine ⟨exec_commit_notOffline, fun offline => ⟨fun pass => ?_, fun before after split pass => ?_⟩⟩
  · exact exec_commit_pass offline (Profile.firstFailure_of_pass pass)
  · exact exec_commit_fail offline (Profile.firstFailure_of_fail split pass)

/-- Settles O60: the three writes, the capture and the reads, each by its lemma, the tables' rows being the registers'
(`State.mem_window_iff`). -/
theorem managementWritesAndCapture : Obligations.ManagementWritesAndCapture := by
  intro s
  refine ⟨fun field byte value => ⟨_, rfl, fun j => ?_, fun g other => ?_, rfl⟩, fun _ _ bad => exec_mgmtWriteBad s bad, exec_mgmtErrorClear s, 
    fun address wide => ?_, fun idle x listed i inside => ?_, fun a unnamed => ?_, viewCodes⟩
  · rw [Profile.field, Table.look_modify_same, byteOf_withByte, Profile.field]
  · rw [Profile.field, Table.look_modify_other _ _ _ _ other.symm, Profile.field]
  · obtain ⟨r, place⟩ := Option.isSome_iff_exists.mp wide
    obtain ⟨named, base, size⟩ := captureAt_eq_some place
    refine ⟨_, r, exec_registerCapture s place, named, base, size, rfl, fun u captured i higher inside => ?_⟩
    rw [← base] at captured ⊢
    exact State.readByte_captured named higher inside captured
  · obtain ⟨r, named, rfl⟩ := (s.mem_window_iff x).mp listed
    exact State.readByte_present named inside idle
  · exact s.readByte_unnamed fun r named => unnamed (r.row s) ((s.mem_window_iff _).mpr ⟨r, named, rfl⟩)

end Sys2Proof.Proofs
end

section
/-! PROOFS. Every one-byte management write is a well-formed command, and FAULT_POP with the alert mask (R166 to R168, R171, R175,
Table 13-6): O10 and O59. -/

namespace Sys2Proof.Machine

/-! ### Management writes (R171, R175, Table 13-6) -/

/-- The codes of Table 13-5 are 01H to 05H. -/
theorem ManagementCommand.ofCode_isNone_iff (v : Byte) :
    (ManagementCommand.ofCode v).isNone = true ↔ ¬(1 ≤ v.toNat ∧ v.toNat ≤ 5) := by
  unfold ManagementCommand.ofCode
  split_ifs with start stop commit pop reset
  case neg => simp only [Option.isNone_none, true_iff]; bv_omega
  all_goals subst v; decide

@[simp] theorem ManagementCommand.command_wellFormed (c : ManagementCommand) : c.command.wellFormed = true := by
  cases c <;> rfl

theorem ManagementCommand.command_ne_mgmtWriteBad (c : ManagementCommand) (a : BitVec 16) (v : Byte) :
    c.command ≠ .mgmtWriteBad a v := by
  cases c <;> nofun

theorem badWrite_eq_true_iff (address : BitVec 16) (value : Byte) : badWrite address.toNat value = true ↔
    ¬(address = 0x0010#16 ∨ (address = 0x0011#16 ∧ 1 ≤ value.toNat ∧ value.toNat ≤ 5) ∨ address = 0x0020#16 ∨
      address = 0x0021#16 ∨ (0x0100 ≤ address.toNat ∧ address.toNat < 0x0198)) := by
  simp only [← BitVec.toNat_inj, BitVec.reduceToNat]
  unfold badWrite
  split_ifs with clear code mask
  case pos => simp [clear]
  case pos => rw [ManagementCommand.ofCode_isNone_iff]; simp [code]
  case pos => simp only [false_iff]; omega
  case neg => simp only [Bool.not_eq_true', Bool.and_eq_false_iff, decide_eq_false_iff_not]; omega

/-- What a write of one byte can be: a bad write, exactly where R171 calls it bad, or the command of its address. -/
theorem commandOfWrite_cases (mask : BitVec 9) (address : BitVec 16) (value : Byte) :
    (badWrite address.toNat value = true ∧ commandOfWrite mask address value = .mgmtWriteBad address value) ∨
    (badWrite address.toNat value = false ∧
      (commandOfWrite mask address value = .mgmtErrorClear value ∨
        (∃ c : ManagementCommand, commandOfWrite mask address value = c.command) ∨
        (∃ m, commandOfWrite mask address value = .alertMaskWrite m) ∨
        ∃ field byte, commandOfWrite mask address value = .stagedProfileWrite field byte value)) := by
  unfold commandOfWrite badWrite
  by_cases clear : address.toNat = 0x0010
  · simp [clear]
  by_cases code : address.toNat = 0x0011
  · cases ManagementCommand.ofCode value <;> simp [code]
  by_cases low : address.toNat = 0x0020
  · simp [low]
  by_cases high : address.toNat = 0x0021
  · simp [high]
  unfold stagedAt
  by_cases staged : 0x0100 ≤ address.toNat ∧ address.toNat < 0x0198
  · simp [clear, code, low, high, staged]
  · have outside : address.toNat < 0x0100 ∨ 0x0198 ≤ address.toNat := by omega
    simp [clear, code, low, high, staged, outside]

theorem commandOfWrite_wellFormed (mask : BitVec 9) (address : BitVec 16) (value : Byte) :
    (commandOfWrite mask address value).wellFormed = true := by
  obtain ⟨bad, e⟩ | ⟨-, e | ⟨c, e⟩ | ⟨m, e⟩ | ⟨field, byte, e⟩⟩ := commandOfWrite_cases mask address value <;> rw [e]
  case inl => exact bad
  case inr.inr.inl => exact c.command_wellFormed
  all_goals rfl

theorem commandOfWrite_eq_mgmtWriteBad_iff (mask : BitVec 9) (address : BitVec 16) (value : Byte) :
    (∃ a v, commandOfWrite mask address value = .mgmtWriteBad a v) ↔ badWrite address.toNat value = true := by
  obtain ⟨bad, e⟩ | ⟨good, e | ⟨c, e⟩ | ⟨m, e⟩ | ⟨field, byte, e⟩⟩ := commandOfWrite_cases mask address value <;> rw [e]
  case inl => simp [bad]
  all_goals simp [good, ManagementCommand.command_ne_mgmtWriteBad]

/-! ### FAULT_POP and ALERT_MASK_WRITE (R166 to R168) -/

theorem exec_faultPop_nil {s : State} (empty : s.fault.list = []) :
    exec .faultPop s = .next { s with fault := { s.fault with popStatus := .listEmpty } } :=
  if_pos (List.isEmpty_iff.mpr empty)

theorem exec_faultPop_cons {s : State} {r : FaultRecord} {rest : List FaultRecord} (head : s.fault.list = r :: rest) :
    exec .faultPop s = .next { s with fault := s.fault.pop s.time48 } :=
  if_neg (by simp [head])

/-- What a pop leaves of a list with a head: the rest, and the marker where records were dropped (R166, R167). -/
theorem FaultUnit.tail_append_marker {f : FaultUnit} {r : FaultRecord} {rest : List FaultRecord} (head : f.list = r :: rest)
    (now : BitVec 48) : f.list.tail ++ f.marker now =
      if f.overflow then rest ++ [⟨.listOverflow, none, none, .dropped f.overflowCount, now⟩] else rest := by
  rw [head, List.tail_cons, FaultUnit.marker]
  split
  · rfl
  · exact List.append_nil rest

theorem exec_alertMaskWrite (s : State) (value : BitVec 16) : exec (.alertMaskWrite value) s =
    .next { s with fault := FaultUnit.judge { s.fault with mask := value.extractLsb' 0 9 } } := rfl

end Sys2Proof.Machine

namespace Sys2Proof.Proofs

open Sys2Proof Sys2Proof.Machine

/-- Settles O10: by what a one-byte write can be (`commandOfWrite_cases`), a bad write being R171's. -/
theorem managementWritesAreCommands : Obligations.ManagementWritesAreCommands := by
  intro mask address value
  exact ⟨commandOfWrite_wellFormed mask address value,
    (commandOfWrite_eq_mgmtWriteBad_iff mask address value).trans (badWrite_eq_true_iff address value)⟩

/-- Settles O59: a pop by whether the list has a head, with the marker of `FaultUnit.tail_append_marker`; ALERT as
`FaultUnit.judge` sets it after each. -/
theorem faultPopAndAlertMask : Obligations.FaultPopAndAlertMask := by
  intro s f
  refine ⟨exec_faultPop_nil, fun r rest head => ?_, exec_alertMaskWrite s⟩
  rw [exec_faultPop_cons head, FaultUnit.pop, FaultUnit.tail_append_marker head]
  rfl

end Sys2Proof.Proofs
end


section
/-! PROOFS. The front command of a step, and the requests as frames: each field is read where its bytes were put, so that every
request reads back (Tables 13-1 and 13-2): O1 and O9. -/

namespace Sys2Proof.Machine

/-! ### Fields put into bytes and read again (R172) -/

theorem byteAt_append_right (before after : List Byte) (i : Nat) :
    byteAt (before ++ after) (before.length + i) = byteAt after i := by
  rw [byteAt, byteAt, List.getD_append_right _ _ _ _ (Nat.le_add_right ..), Nat.add_sub_cancel_left]

theorem word16At_bytes16 (before after : List Byte) (v : BitVec 16) :
    word16At (before ++ (bytes16 v ++ after)) before.length = v := by
  have first : byteAt (before ++ (bytes16 v ++ after)) before.length = v.extractLsb' 8 8 := byteAt_append_right before _ 0
  have second : byteAt (before ++ (bytes16 v ++ after)) (before.length + 1) = v.extractLsb' 0 8 := byteAt_append_right before _ 1
  rw [word16At, first, second]
  exact BitVec.extractLsb'_append_extractLsb'

theorem word24At_bytes24 (before after : List Byte) (v : BitVec 24) :
    word24At (before ++ (bytes24 v ++ after)) before.length = v := by
  have first : byteAt (before ++ (bytes24 v ++ after)) before.length = v.extractLsb' 16 8 := byteAt_append_right before _ 0
  have second : byteAt (before ++ (bytes24 v ++ after)) (before.length + 1) = v.extractLsb' 8 8 := byteAt_append_right before _ 1
  have third : byteAt (before ++ (bytes24 v ++ after)) (before.length + 2) = v.extractLsb' 0 8 := byteAt_append_right before _ 2
  have high : v.extractLsb' 16 8 ++ v.extractLsb' 8 8 = v.extractLsb' 8 16 :=
    BitVec.extractLsb'_append_extractLsb'_eq_extractLsb' rfl
  rw [word24At, first, second, third, high]
  exact BitVec.extractLsb'_append_extractLsb'

theorem dataAt_toList (before after : List Byte) (data : Block) (place : before.length = 11) :
    dataAt (before ++ (data.toList ++ after)) = data := by
  ext i hi
  rw [dataAt, Vector.getElem_ofFn, ← place, byteAt_append_right, byteAt, List.getD_append _ _ _ _ (by simpa using hi)]
  simp [hi]

/-! ### Request frames (R135, R172, R173) -/

/-- Bytes followed by their check are a whole frame, where they are the four of a header at least. -/
theorem frameSound_withCheck (bytes : List Byte) (long : 4 ≤ bytes.length) : frameSound (withCheck bytes) = true := by
  have length : (withCheck bytes).length = bytes.length + 2 := List.length_append
  have split : (withCheck bytes).take ((withCheck bytes).length - 2) = bytes := by
    rw [length, Nat.add_sub_cancel, withCheck, List.take_left]
  rw [← Bool.not_eq_false, frameSound_eq_false, split, length, not_or, not_lt, ne_eq, not_not]
  exact ⟨by omega, rfl⟩

/-- A request frame of its kind's length is read as its kind is. -/
theorem commandOfFrame_requestBytes (p : Port) (h : Header) (k : RequestKind) (body : List Byte)
    (length : body.length + 6 = k.length) : commandOfFrame p (requestBytes h k body) = k.read p (requestBytes h k body) := by
  have sound : frameSound (requestBytes h k body) = true := frameSound_withCheck _ (by simp)
  have kind : RequestKind.ofCode (byteAt (requestBytes h k body) 2) = some k := Laws.F.ofCode_code k
  have whole : (requestBytes h k body).length = k.length := by
    rw [← length]
    simp [requestBytes, withCheck, bytes16]
  rw [commandOfFrame, if_pos sound, kind]
  exact if_pos whole

/-- The temperature of a TEMP_REPORT stands from byte 4 (Table 13-2). -/
theorem word16At_requestBytes_temperature (h : Header) (t : BitVec 16) :
    word16At (requestBytes h .tempReport (bytes16 t)) 4 = t :=
  word16At_bytes16 [h.seq, h.epoch, RequestKind.tempReport.code, h.tag] _ t

/-- In a request frame that names a bank and a row, the row stands from byte 5 (Table 13-2). -/
theorem word24At_requestBytes_row (h : Header) (k : RequestKind) (bank : Byte) (row : Row) (rest : List Byte) :
    word24At (requestBytes h k (bank :: (bytes24 row ++ rest))) 5 = row :=
  word24At_bytes24 [h.seq, h.epoch, k.code, h.tag, bank] _ row

/-- The column after it stands from byte 8 (Table 13-2). -/
theorem word16At_requestBytes_column (h : Header) (k : RequestKind) (bank : Byte) (row : Row) (column : Column)
    (rest : List Byte) : word16At (requestBytes h k (bank :: (bytes24 row ++ (bytes16 column ++ rest)))) 8 = column :=
  word16At_bytes16 ([h.seq, h.epoch, k.code, h.tag, bank] ++ bytes24 row) _ column

/-- The data after the flags stand from byte 11 (Table 13-2). -/
theorem dataAt_requestBytes (h : Header) (k : RequestKind) (bank : Byte) (row : Row) (column : Column) (flags : Byte)
    (data : Block) :
    dataAt (requestBytes h k (bank :: (bytes24 row ++ (bytes16 column ++ (flags :: data.toList))))) = data :=
  dataAt_toList ([h.seq, h.epoch, k.code, h.tag, bank] ++ (bytes24 row ++ (bytes16 column ++ [flags]))) _ data rfl

/-- What a command sent as a frame is sent as: a request frame of some kind and of that kind's length, which as that kind reads as
the command (Table 13-2). -/
theorem frameOf_eq_requestBytes {c : Instr} {p : Port} {bytes : List Byte} (sent : frameOf c = some (p, bytes)) :
    ∃ h k body, bytes = requestBytes h k body ∧ body.length + 6 = k.length ∧ k.read p (requestBytes h k body) = c := by
  cases c with
  | join p h revision => cases sent; exact ⟨h, .join, _, rfl, rfl, rfl⟩
  | leave p h => cases sent; exact ⟨h, .leave, _, rfl, rfl, rfl⟩
  | leaseExtend p h bank => cases sent; exact ⟨h, .leaseExtend, _, rfl, rfl, rfl⟩
  | cancel p h target => cases sent; exact ⟨h, .cancel, _, rfl, rfl, rfl⟩
  | sleepVote p h => cases sent; exact ⟨h, .sleepVote, _, rfl, rfl, rfl⟩
  | wake p h => cases sent; exact ⟨h, .wake, _, rfl, rfl, rfl⟩
  | rowClose p h bank => cases sent; exact ⟨h, .rowClose, _, rfl, rfl, rfl⟩
  | tempReport p h t =>
    cases sent
    exact ⟨h, .tempReport, _, rfl, rfl, congrArg (Instr.tempReport p h) (word16At_requestBytes_temperature h t)⟩
  | rowOpen p h bank row =>
    cases sent
    exact ⟨h, .rowOpen, _, rfl, rfl, congrArg (Instr.rowOpen p h bank) (word24At_requestBytes_row h .rowOpen bank row [])⟩
  | colRead p h bank row column flags =>
    cases sent
    refine ⟨h, .colRead, _, rfl, rfl, ?_⟩
    rw [RequestKind.read, word24At_requestBytes_row, word16At_requestBytes_column]
    rfl
  | colWrite p h bank row column flags data =>
    cases sent
    refine ⟨h, .colWrite, _, rfl, by simp [bytes16, bytes24, RequestKind.length], ?_⟩
    rw [RequestKind.read, word24At_requestBytes_row, word16At_requestBytes_column, dataAt_requestBytes]
    rfl
  | _ => cases sent

end Sys2Proof.Machine

namespace Sys2Proof.Proofs

open Sys2Proof Sys2Proof.Machine

/-- Settles O1: the first branch of `step`. -/
theorem stepTakesFrontCommand : Obligations.StepTakesFrontCommand := by
  intro c rest s waiting
  rw [step, waiting]

/-- Settles O9: what is sent as a frame is a request frame (`frameOf_eq_requestBytes`), and such a frame is read as its kind is. -/
theorem requestFramesReadBack : Obligations.RequestFramesReadBack := by
  intro c p bytes sent
  obtain ⟨h, k, body, rfl, length, reads⟩ := frameOf_eq_requestBytes sent
  rw [commandOfFrame_requestBytes p h k body length, reads]

end Sys2Proof.Proofs
end

section
/-! PROOFS. A queued-kind request that is refused at its arrival (R44), one that is answered at its arrival (R48, R52), and CANCEL (R57):
O26, O30 and O32. -/

namespace Sys2Proof.Machine

/-! ### The first arrival check that fails (R44, Table 3-2) -/

theorem bankOf_of_small {bank : Byte} (h : ¬16 ≤ bank.toNat) : ∃ b, bankOf bank = some b :=
  ⟨⟨bank.toNat, by omega⟩, bankOf_of_val rfl⟩

/-- With no FREE slot of the port there is none to take (R148). -/
theorem State.freeSlot_eq_none {s : State} {p : Port} (full : ∀ i, (s.mover.ports.look p).slots.look i ≠ .free) : s.freeSlot p = none := by
  rw [State.freeSlot, List.find?_eq_none]
  intro i _ free
  rw [Bool.not_eq_true', WriteSlot.inUse_eq_false] at free
  exact full i free

/-- A request is refused by the first check of Table 3-2 that fails. -/
theorem State.arrivalCheck_error {s : State} {p : Port} {tag bank : Byte} {a : Arrival} {r : RefusalReason}
    (first : FirstOf (s.arrivalFailures p tag bank a) r) : s.arrivalCheck p tag bank a = .error r := by
  simp only [State.arrivalFailures, FirstOf, ← Session.isLeaving_iff, ← Arrival.inRange_iff, ← Arrival.needsSlot_iff] at first
  obtain ⟨offline, rfl⟩ | ⟨notOffline, first⟩ := first
  · rw [State.arrivalCheck, if_pos offline]
  obtain ⟨stopping, rfl⟩ | ⟨notStopping, first⟩ := first
  · rw [State.arrivalCheck, if_neg notOffline, if_pos stopping]
  obtain ⟨leaving, rfl⟩ | ⟨notLeaving, first⟩ := first
  · rw [State.arrivalCheck, if_neg notOffline, if_neg notStopping, if_pos leaving]
  obtain ⟨range, rfl⟩ | ⟨ranges, first⟩ := first
  · rw [State.arrivalCheck, if_neg notOffline, if_neg notStopping, if_neg notLeaving]
    by_cases large : 16 ≤ bank.toNat
    · rw [bankOf_of_large large]
    · obtain ⟨b, named⟩ := bankOf_of_small large
      simp [named, range.resolve_left large]
  obtain ⟨small, fits⟩ := not_or.mp ranges
  obtain ⟨b, named⟩ := bankOf_of_small small
  rw [not_not] at fits
  obtain ⟨used, rfl⟩ | ⟨newTag, first⟩ := first
  · simp [State.arrivalCheck, notOffline, notStopping, notLeaving, named, fits, used]
  obtain ⟨full, rfl⟩ | ⟨room, first⟩ := first
  · simp [State.arrivalCheck, notOffline, notStopping, notLeaving, named, fits, newTag, full]
  obtain ⟨⟨needs, none⟩, rfl⟩ | ⟨-, ⟨⟩⟩ := first
  simp [State.arrivalCheck, notOffline, notStopping, notLeaving, named, fits, newTag, room, needs, State.freeSlot_eq_none none]

/-- A queued-kind frame that an arrival check refuses: counted, refused, and readiness assessed. -/
theorem State.queued_refused {s : State} {p : Port} {h : Header} {bank : Byte} {a : Arrival} {r : RefusalReason} (t : s.takes p h)
    (fails : s.arrivalCheck p h.tag bank a = .error r) : s.queued p h bank a = (s.refusedWith p h.tag r).settle := by
  rw [State.queued, s.receive_takes p h _ t, State.arrive, s.answered_arrivalCheck, fails, ← s.answered_refuse]

/-! ### An entry answered at its arrival (R48, R52) -/

/-- The only entry of a port for a bank, answered: no other entry is evaluated after it (R52). -/
theorem State.evalFront_answer {s : State} {p : Port} {b : Bank} {e : Entry} {a : Answer} (front : s.front p b = some e)
    (answered : s.outcome p e = .answer a) (sole : (s.answerFront p e a).front p b = none) :
    s.evalFront p b = s.answerFront p e a := by
  have some_entry : (s.queues.look p).entries ≠ [] := by
    intro none
    simp [State.front, none] at front
  obtain ⟨n, hn⟩ := Nat.exists_eq_succ_of_ne_zero (mt List.length_eq_zero_iff.mp some_entry)
  have rest : State.evalRun p b n (s.answerFront p e a) = s.answerFront p e a := by
    cases n with
    | zero => rfl
    | succ n => rw [State.evalRun, sole]
  rw [State.evalFront, hn, State.evalRun, front]
  simp only [answered]
  exact rest

/-- The counters of a port once a request has been accepted and answered (R44, R52). -/
def PortCounters.answered (n : PortCounters) (x : Answer) : PortCounters :=
  { n with accepted := n.accepted + 1, refused := match x with | .refused _ => n.refused + 1 | _ => n.refused }

theorem eraseP_append_last {l : List Entry} {e : Entry} {b : Bank} (none : ∀ x ∈ l, x.bank ≠ b) (last : e.bank = b) :
    (l ++ [e]).eraseP (fun x => x.bank == b) = l := by
  rw [List.eraseP_append_right _ (by simpa using none)]
  simp [last]

theorem erase_append_last {l : List Byte} {tag : Byte} (new : tag ∉ l) : (l ++ [tag]).erase tag = l := by
  rw [List.erase_append_right _ new]
  simp

/-- The entry accepted and its tag gone, every queue is as it was before the arrival (R46, R52). -/
theorem State.removeFront_accepted {s v : State} {p : Port} {h : Header} {a : Arrival} {b : Bank} {slot : Fin 8}
    (new : h.tag ∉ (s.queues.look p).outstanding) (none : ∀ e ∈ (s.queues.look p).entries, e.bank ≠ b)
    (queues : v.queues = (s.accepted p h b a slot).queues) : v.removeFront p b h.tag true = { v with queues := s.queues } := by
  have entries := eraseP_append_last (e := a.entry h.tag b slot s.time) none rfl
  have same : s.queues.put p ⟨(s.queues.look p).entries, (s.queues.look p).outstanding⟩ = s.queues := Table.put_look _ _
  rw [State.removeFront, State.modQueue, Table.modify, queues]
  simp only [State.accepted, Table.look_put_same, Table.put_put, if_true, erase_append_last new, entries, same]

/-- The slot that an acceptance has taken, FREE again, every slot is as it was before the arrival (R148, R149). -/
theorem State.freeEntrySlot_accepted {s v : State} {p : Port} {h : Header} {a : Arrival} {b : Bank} {slot : Fin 8}
    (free : (∃ row column ac d, a = .colWrite row column ac d) → (s.mover.ports.look p).slots.look slot = .free)
    (mover : v.mover = (s.accepted p h b a slot).mover) :
    v.freeEntrySlot p (a.entry h.tag b slot s.time) = { v with mover := s.mover } := by
  cases a with
  | colWrite row column ac d =>
    have same : s.mover.ports.put p { s.mover.ports.look p with slots := (s.mover.ports.look p).slots.put slot .free } = s.mover.ports := by
      rw [← free ⟨row, column, ac, d, rfl⟩, Table.put_look, Table.put_look]
    change v.setSlot p slot .free = _
    rw [State.setSlot, State.modMover, mover]
    simp only [State.accepted, Table.modify, Table.look_put_same, Table.put_put, same]
  | _ =>
    change v = _
    change v.mover = s.mover at mover
    rw [← mover]

/-- An accepted entry answered has left the queues, the slots and the tags as they were before its arrival (R46, R149). -/
theorem State.accepted_answered {s : State} {p : Port} {h : Header} {bank : Byte} {a : Arrival} {b : Bank} {slot : Fin 8}
    (t : s.takes p h) (admits : s.Admits p h.tag bank a b slot) (none : ∀ e ∈ (s.queues.look p).entries, e.bank ≠ b)
    (i : IdleTimer) (x : Answer) :
    ((s.accepted p h b a slot).withIdle i).answerFront p (a.entry h.tag b slot s.time) x =
      State.withIdle { s.accepted p h b a slot with
        queues := s.queues
        mover := s.mover
        links := (s.answered p [⟨h.epoch, h.tag, x.message⟩]).links
        fault := { s.fault with ports := s.fault.ports.put p ((s.fault.ports.look p).answered x) } } i := by
  obtain ⟨passes, -, taken⟩ := admits
  have new : h.tag ∉ (s.queues.look p).outstanding := passes (_, .duplicateTag) (by simp [State.arrivalFailures])
  have gone {v : State} (queues : v.queues = (s.accepted p h b a slot).queues) (mover : v.mover = (s.accepted p h b a slot).mover) :
      (v.removeFront p b h.tag true).freeEntrySlot p (a.entry h.tag b slot s.time) =
        { v with queues := s.queues, mover := s.mover } := by
    rw [State.removeFront_accepted new none queues]
    exact State.freeEntrySlot_accepted (fun write => (taken write).1) mover
  have links (m : Message) : (((s.accepted p h b a slot).withIdle i).reply p h.tag m).links =
      (s.answered p [⟨h.epoch, h.tag, m⟩]).links := by
    rw [← t.frameEpoch, ← s.answered_reply]
    rfl
  have tells (m : Message) : (((s.accepted p h b a slot).withIdle i).reply p h.tag m) =
      { (s.accepted p h b a slot).withIdle i with links := (s.answered p [⟨h.epoch, h.tag, m⟩]).links } := by
    rw [← links]
    rfl
  cases x with
  | openHit => exact (gone (v := ((s.accepted p h b a slot).withIdle i).reply p h.tag .openHit) rfl rfl).trans (by rw [tells]; rfl)
  | closeMoot => exact (gone (v := ((s.accepted p h b a slot).withIdle i).reply p h.tag .closeMoot) rfl rfl).trans (by rw [tells]; rfl)
  | refused r =>
    refine (gone (v := ((s.accepted p h b a slot).withIdle i).refuse p h.tag r) rfl rfl).trans ?_
    rw [State.refuse, tells]
    simp [State.modPortCounters, Table.modify, State.accepted, State.withIdle, PortCounters.answered]
    rfl

/-! ### CANCEL (R57, R149) -/

/-- The first entry that carries a tag is the one that a CANCEL of the tag finds and removes. -/
theorem find?_tag_append {before after : List Entry} {e : Entry} {target : Byte} (tag : e.tag = target)
    (first : ∀ x ∈ before, x.tag ≠ target) :
    (before ++ e :: after).find? (fun x => x.tag == target) = some e ∧
      (before ++ e :: after).eraseP (fun x => x.tag == target) = before ++ after := by
  have others : ∀ x ∈ before, ¬(x.tag == target) = true := by simpa using first
  refine ⟨List.find?_eq_some_iff_append.mpr ⟨by simpa using tag, before, after, rfl, by simpa using first⟩, ?_⟩
  rw [List.eraseP_append_right _ others, List.eraseP_cons_of_pos (by simpa using tag)]

/-- The target of a CANCEL removed: its entry and its tag gone, CANCELLED sent, its slot FREE (R57, R149). -/
def State.cancelled (s : State) (p : Port) (target : Byte) (e : Entry) : State :=
  ((s.removeTag p target).reply p target .cancelled).freeEntrySlot p e

/-- A CANCEL of an entry that stands alone for its bank evaluates no other entry, and with a master awake judges nothing (R57, R128). -/
theorem State.takeCancel_alone {s : State} {p : Port} {tag target : Byte} {e : Entry} (awake : s.awakeMaster)
    (found : (s.queues.look p).entries.find? (fun x => x.tag == target) = some e)
    (alone : ∀ x ∈ (s.queues.look p).entries.eraseP (fun x => x.tag == target), x.bank ≠ e.bank) :
    s.takeCancel p tag target = (s.cancelled p target e).settle := by
  have queue : ((s.cancelled p target e).queues.look p).entries = (s.queues.look p).entries.eraseP fun x => x.tag == target := by
    simp [State.cancelled, State.removeTag, State.modQueue]
  have none : (s.cancelled p target e).front p e.bank = none := by
    simpa [State.front, queue] using alone
  have still : (s.cancelled p target e).awakeMaster := awake.of_rank (by simp [State.cancelled])
  rw [State.takeCancel, found]
  change (State.judgeUnanimity (if s.isFront p e then (s.cancelled p target e).evalFront p e.bank else s.cancelled p target e)).settle = _
  rw [State.evalFront_none _ _ _ none, ite_self, State.judgeUnanimity_awake _ _ still]
  rfl

end Sys2Proof.Machine

namespace Sys2Proof.Proofs

open Sys2Proof Sys2Proof.Machine

/-- Settles O30: the first failure of Table 3-2 is the check that refuses (`State.arrivalCheck_error`). -/
theorem arrivalRefusedInOrder : Obligations.ArrivalRefusedInOrder := by
  intro s c p h bank a r hc t first
  exact ⟨_, exec_of_arrival hc s, by rw [State.queued_refused t (State.arrivalCheck_error first), State.settle_bare]⟩

/-- Settles O32: the entry accepted is the front entry for its bank, and its answer undoes its acceptance but for the counter
(`State.accepted_answered`). -/
theorem frontEntryAnsweredAtArrival : Obligations.FrontEntryAnsweredAtArrival := by
  intro s c p h bank a b slot x hc t admits none answers n
  obtain ⟨i, arrived⟩ := State.queued_admitted t admits
  have front := State.accepted_front (front_eq_none.mpr none) h a slot i
  have undone := State.accepted_answered t admits none i x
  have sole : (((s.accepted p h b a slot).withIdle i).answerFront p (a.entry h.tag b slot s.time) x).front p b = Option.none := by
    rw [undone]
    exact front_eq_none.mpr none
  refine ⟨_, exec_of_arrival hc s, ?_⟩
  rw [arrived, State.settle_bare, if_pos (by rw [front_eq_none.mpr none]; rfl),
    State.evalFront_answer front ((t.accepted_outcome b a slot i).trans answers) sole, undone, State.withIdle_bare]
  cases x <;> rfl

/-- Settles O26: the miss is one reply; the target removed stands alone for its bank, so that nothing is evaluated after it. -/
theorem cancelRemovesOrMisses : Obligations.CancelRemovesOrMisses := by
  intro s p h target t q m
  have taken : exec (.cancel p h target) s = .next ((s.answered p []).takeCancel p h.tag target) :=
    congrArg Host.Outcome.next (s.receive_takes p h _ t)
  refine ⟨fun missing => ?_, fun before e after split tag first others awake => ⟨_, taken, ?_⟩⟩
  · have none : ((s.answered p []).queues.look p).entries.find? (fun e => e.tag == target) = none := by
      simpa [State.answered] using missing
    rw [taken, State.takeCancel, none]
    simp only [State.answered_reply, t.frameEpoch]
  · obtain ⟨found, removed⟩ := find?_tag_append (after := after) tag first
    rw [← split] at found removed
    have told : ((s.answered p []).reply p target .cancelled) = s.answered p [⟨h.epoch, target, .cancelled⟩] := by
      rw [s.answered_reply, t.frameEpoch]
    rw [State.takeCancel_alone (s := s.answered p []) awake found (removed ▸ others), State.settle_bare, ← told, ← removed]
    obtain ⟨_, _, request, _, _, _⟩ := e
    cases request <;> rfl

end Sys2Proof.Proofs
end

section
/-! PROOFS. STOP in each rank state (R59, R75, R76, R78, R83, R117, R121 to R123, R128): O57. -/

namespace Sys2Proof.Machine

/-! ### The refusals that a STOP sends (R59) -/

/-- The refusals of some entries of a port at a STOP, as frames. -/
def State.stopRefusals (s : State) (p : Port) (l : List Entry) : List OutFrame :=
  l.map fun x => ⟨s.frameEpoch p, x.tag, .refused .rankStopping⟩

theorem State.refuseStopped_links (s : State) (p q : Port) (e : Entry) :
    (s.refuseStopped p e).links.look q =
      if p = q then { s.links.look q with outbound := (s.links.look q).outbound ++ s.stopRefusals p [e] } else s.links.look q := by
  have links : (s.refuseStopped p e).links = (s.reply p e.tag (.refused .rankStopping)).links := by simp [State.refuseStopped, State.refuse]
  rw [links]
  simp [State.reply, State.send, State.modLink, Table.look_modify, State.stopRefusals]

/-- Entries of a port refused one by one: a frame for each in their order, and no other port is sent any. -/
theorem State.refuseAll_links (p q : Port) (l : List Entry) (s : State) :
    (l.foldl (State.refuseStopped p) s).links.look q =
      if p = q then { s.links.look q with outbound := (s.links.look q).outbound ++ s.stopRefusals p l } else s.links.look q := by
  induction l generalizing s with
  | nil => simp [State.stopRefusals]
  | cons e l ih =>
    have epoch : (s.refuseStopped p e).frameEpoch p = s.frameEpoch p := by
      rw [State.frameEpoch, State.epoch?, s.refuseStopped_links p p e, if_pos rfl]
      rfl
    rw [List.foldl_cons, ih, s.refuseStopped_links p q e]
    split
    · simp [State.stopRefusals, epoch]
    · rfl

theorem State.refuseQueue_links (s : State) (p q : Port) :
    (s.refuseQueue p).links.look q =
      if p = q then { s.links.look q with outbound := (s.links.look q).outbound ++ s.stopRefusals p (s.queues.look p).entries }
      else s.links.look q := by
  rw [← State.refuseAll_links p q (s.queues.look p).entries s]
  simp [State.refuseQueue]

/-- Every entry of a port is refused under its tag, in the order of the queue. -/
theorem State.refuseQueues_outbound (s : State) (p : Port) :
    (s.refuseQueues.links.look p).outbound = (s.links.look p).outbound ++ s.stopRefusals p (s.queues.look p).entries := by
  have told (l : List Port) (nodup : l.Nodup) (u : State) : ((l.foldl State.refuseQueue u).links.look p).outbound =
      if p ∈ l then (u.links.look p).outbound ++ u.stopRefusals p (u.queues.look p).entries else (u.links.look p).outbound := by
    induction l generalizing u with
    | nil => rfl
    | cons q l ih =>
      obtain ⟨fresh, rest⟩ := List.nodup_cons.mp nodup
      rw [List.foldl_cons, ih rest]
      by_cases same : q = p
      · subst same
        simp [fresh, u.refuseQueue_links q q]
      · have link : (u.refuseQueue q).links.look p = u.links.look p := by rw [u.refuseQueue_links q p, if_neg same]
        simp [State.stopRefusals, State.frameEpoch, State.epoch?, link, u.refuseQueue_entries q p, same, Ne.symm same]
  rw [State.refuseQueues, told allPorts (by decide) s, if_pos (mem_allPorts p)]

theorem State.toStopping_links (s : State) : s.toStopping.links = (s.told (.rankState .stopping)).links := by simp only [State.toStopping]

theorem State.toStopping_queues (s : State) : s.toStopping.queues = s.queues := by simp only [State.toStopping, State.told]

theorem State.stopped_links (s : State) : s.stopped.links = s.toStopping.refuseQueues.links := by simp only [State.stopped]

/-- What a STOP sends first: RANK_STATE(STOPPING), then the refusals of the port's entries (R59, R117, R121). -/
theorem State.carryOutStop_refusals (s : State) {p : Port} {e : Byte} (current : s.epoch? p = some e) :
    Sent s s.carryOutStop p (⟨e, 0, .rankState .stopping⟩ ::
      (s.queues.look p).entries.map fun x => ⟨e, x.tag, .refused .rankStopping⟩) := by
  have epoch : s.toStopping.frameEpoch p = e := by
    rw [State.frameEpoch, State.epoch?, s.toStopping_links, ← State.epoch?, s.told_epoch, current]
    rfl
  have sent : (s.links.look p).outbound ++ (⟨e, 0, .rankState .stopping⟩ ::
      (s.queues.look p).entries.map fun x => ⟨e, x.tag, .refused .rankStopping⟩) = (s.stopped.links.look p).outbound := by
    rw [s.stopped_links, s.toStopping.refuseQueues_outbound, State.stopRefusals, epoch, s.toStopping_links, s.told_outbound _ current,
      s.toStopping_queues, List.append_assoc, List.singleton_append]
  rw [State.carryOutStop_eq]
  exact Appends.sent sent (s.stopped.addPurpose_appends .stop false)

/-! ### Grace end with every queue empty (R79) -/

/-- With no entry in any queue, grace end of an OPEN bank is its revocation and the record of it. -/
theorem State.graceRevoke_empty {s : State} (reason : RevokeReason) {b : Bank} {l : Lease}
    (empty : ∀ p, (s.queues.look p).entries = []) (held : (s.banks.look b).state = .opened l) :
    (s.graceRevoke reason b).queues = s.queues ∧ (s.graceRevoke reason b).banks =
      s.banks.put b { s.banks.look b with state := .revoking ⟨l.row, l.owner, l.contended, reason⟩ } := by
  rw [State.graceRevoke_opened held, State.reevaluate_none _ _ fun p => by simp [State.front, empty]]
  simp [s.revoke_opened b reason l held]

/-- With no entry in any queue, grace end makes of an OPEN bank exactly its revocation. -/
theorem State.endGrace_revokes {s : State} {b : Bank} {l : Lease} (empty : ∀ p, (s.queues.look p).entries = [])
    (held : (s.banks.look b).state = .opened l) :
    (s.endGrace.banks.look b).state = .revoking ⟨l.row, l.owner, l.contended, s.drain.reason⟩ := by
  have one (u : State) (x : Bank)
      (h : u.queues = s.queues ∧ ((u.banks.look b).state = .opened l ∨
        (u.banks.look b).state = .revoking ⟨l.row, l.owner, l.contended, s.drain.reason⟩)) :
      (u.graceRevoke s.drain.reason x).queues = s.queues ∧ (((u.graceRevoke s.drain.reason x).banks.look b).state = .opened l ∨
        ((u.graceRevoke s.drain.reason x).banks.look b).state = .revoking ⟨l.row, l.owner, l.contended, s.drain.reason⟩) := by
    obtain ⟨queues, bank⟩ := h
    cases at_x : (u.banks.look x).state with
    | closed => rwa [State.graceRevoke_shut (by rw [at_x]; rfl), and_iff_right queues]
    | revoking r => rwa [State.graceRevoke_shut (by rw [at_x]; rfl), and_iff_right queues]
    | opened m =>
      obtain ⟨same, banks⟩ := State.graceRevoke_empty s.drain.reason (fun p => by rw [queues, empty p]) at_x
      rw [same, and_iff_right queues, banks, Table.look_put]
      split
      · rename_i same
        subst same
        obtain opened | revoking := bank
        · cases at_x.symm.trans opened
          exact .inr rfl
        · exact nomatch at_x.symm.trans revoking
      · exact bank
  obtain ⟨-, still | revoked⟩ := foldl_holds _ _ one allBanks s ⟨rfl, .inl held⟩
  · have shut := (State.graceRevokes_banks s.drain.reason allBanks s).2 b (mem_allBanks b)
    rw [still] at shut
    exact nomatch shut
  · have ends : s.endGrace.banks = (allBanks.foldl (State.graceRevoke s.drain.reason) s).banks := by simp [State.endGrace]
    rw [ends, revoked]

/-- STOP as a first purpose, or as a new one in GRACE, cuts grace: with every queue empty an OPEN bank is revoked for the STOP
(R75, R78, R79). -/
theorem State.addStop_revokes {s : State} {b : Bank} {l : Lease} (empty : ∀ p, (s.queues.look p).entries = [])
    (held : (s.banks.look b).state = .opened l)
    (cut : s.drain.phase = .none ∨ ∃ u, s.drain.phase = .grace u ∧ s.drain.purposes.stop = false) :
    ((s.addPurpose .stop false).banks.look b).state = .revoking ⟨l.row, l.owner, l.contended, .stop⟩ := by
  obtain none | ⟨u, grace, fresh⟩ := cut
  · have starts : s.addPurpose .stop false = s.startDrain .stop false := by simp only [State.addPurpose, none]
    have ends : (s.startDrain .stop false).banks = (s.grantsGrace .stop false).endGrace.banks := by
      simp [State.startDrain, State.beginDrain_eq, Purpose.cuts]
    rw [starts, ends]
    exact State.endGrace_revokes (s := s.grantsGrace .stop false) empty held
  · have ends : s.addPurpose .stop false = (s.setDrain { s.drain with
        purposes := s.drain.purposes.add .stop, urgent := s.drain.urgent || false }).endGrace := by
      simp [State.addPurpose, grace, Purposes.has, fresh]
    rw [ends]
    exact State.endGrace_revokes (s := s.setDrain { s.drain with
      purposes := s.drain.purposes.add .stop, urgent := s.drain.urgent || false }) empty held

/-! ### STOP in ACTIVE (R75, R76, R121) -/

/-- What a STOP does before it asks for its drain sends no DRAIN notice (R59, R117). -/
theorem State.stopped_appends (s : State) : Appends OutFrame.NoDrain s s.stopped := by
  have told : Appends OutFrame.NoDrain s s.toStopping :=
    (s.noticeAll_appends (.rankState .stopping) nofun).trans_links (by rw [State.noticeAll_told, s.toStopping_links])
  exact (told.trans s.toStopping.refuseQueues_appends).trans_links s.stopped_links

theorem State.stopped_keeps (s : State) :
    s.stopped.time = s.time ∧ s.stopped.profile = s.profile ∧ s.stopped.banks = s.banks ∧ s.stopped.drain = s.drain := by
  simp [State.stopped, State.toStopping, State.told]

/-- The drain that a STOP starts where none is active, its grace cut (R75, R76, R121). -/
theorem State.carryOutStop_started {s : State} (idle : s.drain.phase = .none) :
    DrainStarted ⟨false, false, false, true⟩ false true s s.carryOutStop := by
  obtain ⟨time, profile, banks, drain⟩ := s.stopped_keeps
  have starts : s.carryOutStop = s.stopped.startDrain .stop false := by
    rw [State.carryOutStop_eq]
    simp only [State.addPurpose, drain, idle]
  rw [starts]
  exact (s.stopped.startDrain_started .stop false).of_before time profile banks s.stopped_appends

/-- An OPEN bank is revoked by a STOP that starts a drain or cuts its grace (R79, R121). -/
theorem State.carryOutStop_revokes {s : State} {b : Bank} {l : Lease} (held : (s.banks.look b).state = .opened l)
    (cut : s.drain.phase = .none ∨ ∃ u, s.drain.phase = .grace u ∧ s.drain.purposes.stop = false) :
    (s.carryOutStop.banks.look b).state = .revoking ⟨l.row, l.owner, l.contended, .stop⟩ := by
  obtain ⟨-, -, banks, drain⟩ := s.stopped_keeps
  rw [State.carryOutStop_eq]
  exact State.addStop_revokes s.toStopping.refuseQueues_entries (by rw [banks, held]) (by rwa [drain])

/-! ### STOP in POWERDOWN (R83, R121, R128) -/

/-- No sleep entry begins while a STOP is pending (R128). -/
theorem State.unanimous_of_stopPending {s : State} (stop : s.rank.stopPending = true) : s.unanimous = false := by
  simp [State.unanimous, stop]

/-- A judgement with a STOP pending withdraws a sleep entry that has begun, and does nothing else to the drain (R83, R128). -/
theorem State.judgeUnanimity_drainAwake {s : State} (stop : s.rank.stopPending = true) : s.judgeUnanimity.drain = s.drainAwake := by
  have lost := State.unanimous_of_stopPending stop
  cases begun : s.rank.sleepBegun with
  | false => simp [State.judgeUnanimity_same (lost.trans begun.symm), State.drainAwake, begun]
  | true =>
    rw [State.judgeUnanimity_withdraws lost begun]
    simp [State.drainAwake, begun, State.dropPurpose, Purposes.drop, State.setDrain, State.setBegun]

/-- A STOP made pending, with what it asks of the rank at once: exit wanted in POWERDOWN (R121, R126). -/
def State.stopWanted (s : State) : State := State.wantExit { s with rank := { s.rank with stopPending := true } }

theorem State.stopWanted_rank {s : State} {r : PowerDown} (state : s.rank.state = .powerDown r) :
    s.stopWanted.rank = { s.rank with stopPending := true, state := .powerDown { r with exitWanted := true } } := by
  simp [State.stopWanted, State.wantExit, state, State.setRank]

/-! ### STOP in SLEEP and in BRINGUP (R122, R123) -/

/-- What the entry to OFFLINE makes of the rank (R123, R127). -/
theorem State.enterOffline_rank (s : State) (retained : Bool) :
    (s.enterOffline retained).rank = { s.rank with
      state := .offline, stopPending := false, sleepBegun := false, idle := .stopped, retained := retained
      votes := s.rank.votes.map fun v => v.map fun _ => .awake } := by
  rw [State.enterOffline, State.become_eq]
  rfl

/-- What a STOP in SLEEP or BRINGUP makes of the rank at the end of the happening (R122, R123). -/
theorem State.stopOffline_rank (s : State) (retained : Bool) : ∃ i, (s.refuseQueues.enterOffline retained).settle.rank = { s.rank with
    state := .offline, stopPending := false, sleepBegun := false, idle := i, retained := retained
    votes := s.rank.votes.map fun v => v.map fun _ => .awake } := by
  obtain ⟨i, rank⟩ := (s.refuseQueues.enterOffline retained).settle_rank
  exact ⟨i, by rw [rank, State.enterOffline_rank]; simp⟩

/-- What the entry to OFFLINE makes of the drain, the timer and the calibration (R74, R90, R106). -/
theorem State.enterOffline_units (s : State) (retained : Bool) :
    (s.enterOffline retained).drain = ⟨.none, ⟨false, false, false, false⟩, false⟩ ∧
      (s.enterOffline retained).refresh = { s.refresh with timer := none } ∧
      (s.enterOffline retained).calibration = { s.calibration with shortDue := false, lock := none } := by
  rw [State.enterOffline, State.become_eq]
  exact ⟨rfl, rfl, rfl⟩

/-- The retained flag after a STOP in BRINGUP (R122). -/
theorem BringUpPhase.keepsRetained_iff (path : BringUpPath) (phase : BringUpPhase) :
    phase.keepsRetained path = true ↔ path = .retained ∧ ((∃ u, phase = .clockSettle u) ∨ phase = .exitWait none) := by
  cases phase with
  | clockSettle u => simp [BringUpPhase.keepsRetained]
  | exitWait done => cases done <;> simp [BringUpPhase.keepsRetained]
  | resetHold u => simp [BringUpPhase.keepsRetained]
  | modeLoad m => simp [BringUpPhase.keepsRetained]
  | longCal issued => simp [BringUpPhase.keepsRetained]

end Sys2Proof.Machine

namespace Sys2Proof.Proofs

open Sys2Proof Sys2Proof.Machine

/-- Settles O57: in ACTIVE what stands is `State.carryOutStop`, in POWERDOWN a judgement that finds no unanimity, in SLEEP and BRINGUP
the entry to OFFLINE with the queues emptied. -/
theorem stopInEachRankState : Obligations.StopInEachRankState := by
  intro s emptied offline
  let v := s.setStatus .ok
  have entered (kept : Bool) : offline ((v.refuseQueues.enterOffline kept).settle) kept := by
    obtain ⟨drain, refresh, calibration⟩ := v.refuseQueues.enterOffline_units kept
    obtain ⟨-, -, -, banks, settledDrain, -, -, -, settledRefresh, settledCalibration, -⟩ :=
      State.settle_frame (v.refuseQueues.enterOffline kept)
    obtain ⟨i, rank⟩ := State.stopOffline_rank v kept
    refine ⟨by rw [rank], by rw [rank], by rw [rank]; rfl, by rw [rank], by rw [rank], by rw [settledRefresh, refresh],
      by rw [settledCalibration, calibration], by rw [settledCalibration, calibration], by rw [settledDrain, drain], fun p => ?_,
      by rw [banks]; simp [v], fun p => by rw [rank]; exact Table.look_map _ _ _⟩
    obtain ⟨reason, entries⟩ := (v.refuseQueues.enterOffline kept).settle_entries p
    simp only [entries, State.enterOffline_frame, v.refuseQueues_entries p, List.map_nil]
  refine ⟨fun refused => ?_, fun free => ⟨fun active => ?_, fun r down => ?_, fun w sleep => ?_, fun u waking => ?_,
    fun path phase up => ?_⟩⟩
  · obtain pending | off | stopping := refused
    · simp [exec, execStop, pending, State.setStatus]
    · simp [exec, execStop, off, State.setStatus]
    · simp [exec, execStop, stopping, State.setStatus]
  · have run : exec .stop s = .next v.carryOutStop.settle := by simp [exec, execStop, free, active, v]
    obtain ⟨⟨i, rank⟩, purposes, entries⟩ := v.carryOutStop_settle
    obtain ⟨-, links, -, banks, drain, -⟩ := State.settle_frame v.carryOutStop
    refine ⟨_, run, by rw [rank], by rw [rank]; rfl, purposes, entries, fun idle => ?_, fun p e current => ?_, fun cut b l held => ?_⟩
    · have started : DrainStarted ⟨false, false, false, true⟩ false true v v.carryOutStop := State.carryOutStop_started idle
      exact started.of_after drain banks links
    · rw [Sent, links]
      exact v.carryOutStop_refusals current
    · rw [banks]
      exact State.carryOutStop_revokes (s := v) held cut
  · have run : exec .stop s = .next v.stopWanted.judgeUnanimity.settle := by
      simp only [exec, execStop, free, down]
      rfl
    have rank : v.stopWanted.rank = _ := State.stopWanted_rank (s := v) down
    have stop : v.stopWanted.rank.stopPending = true := by rw [rank]
    have links : v.stopWanted.links = s.links := by simp [State.stopWanted, v]
    have drain : v.stopWanted.drainAwake = s.drainAwake := by
      simp only [State.drainAwake, rank]
      simp [State.stopWanted, v, State.setStatus]
    obtain ⟨i, settled⟩ := v.stopWanted.judgeUnanimity.settle_rank
    obtain ⟨x, j, judged, -⟩ := v.stopWanted.judgeUnanimity_rank
    refine ⟨_, run, by rw [settled, judged, rank]; rfl, by rw [settled, judged, stop], ?_, ?_, ?_⟩
    · rw [settled]
      exact State.judgeUnanimity_exitWanted (by rw [rank])
    · rw [← links, ← State.judgeUnanimity_links (State.unanimous_of_stopPending stop)]
      simp
    · rw [← drain, ← State.judgeUnanimity_drainAwake stop]
      simp
  · exact ⟨_, by simp only [exec, execStop, free, sleep]; rfl, entered true⟩
  · refine ⟨v.stopInWaking, by simp [exec, execStop, free, waking, v], ?_⟩
    rw [State.stopInWaking, State.settle_bare]
    rfl
  · refine ⟨_, by simp only [exec, execStop, free, up]; rfl, _, entered (s.rank.retained && phase.keepsRetained path), ?_⟩
    rw [Bool.and_eq_true, phase.keepsRetained_iff path]

end Sys2Proof.Proofs
end

section
/-! PROOFS. LINK_DOWN in a session, its end as lost with another master awake (R85, R102, R134, R143): O19. -/

namespace Sys2Proof.Machine

/-- LINK_DOWN in a session ends it as lost (R134, R143). -/
theorem exec_linkDown_session {s : State} {p : Port} {e : Byte} (current : s.epoch? p = some e) :
    exec (.linkDown p) s = .next (s.endSession p e .lost).settle := by
  rw [State.epoch?] at current
  change execLinkDown p s = _
  unfold execLinkDown
  revert current
  cases (s.links.look p).session with
  | down => exact nofun
  | linked => exact nofun
  | joined e' => exact fun same => by cases same; rfl
  | leaving e' tag asked report => exact fun same => by cases same; rfl

/-! ### The banks of a session that ends (R17, R85, R86) -/

/-- A bank that is not the session's is as it was after the revocations of the session's banks (R85, R86). -/
theorem State.revokesOwned_others {o : Owner} {b : Bank} (reason : RevokeReason) (l : List Bank) {s : State}
    (other : (s.banks.look b).state.owner? ≠ some o) : (l.foldl (State.revokeOwned o reason) s).banks.look b = s.banks.look b := by
  refine foldl_holds (fun u : State => u.banks.look b = s.banks.look b) _ (fun u x same => ?_) l s rfl
  by_cases here : b = x
  · subst here
    have foreign : ¬u.owns o b = true := fun owns => other (by rw [← same, State.owns_iff.mp owns])
    rw [State.revokeOwned, if_neg foreign, same]
  · rw [u.revokeOwned_others o reason here, same]

/-- The revocations of a session's banks keep every bank's row (R17). -/
theorem State.revokesOwned_moves (o : Owner) (reason : RevokeReason) (l : List Bank) (s : State) :
    BankMoves (fun _ _ _ => True) s (l.foldl (State.revokeOwned o reason) s) :=
  .foldl _ s (fun v b _ => v.revokeOwned_moves o reason b trivial) l

/-- What the steps of a session's end up to the removal of its vote make of the banks and the rank, and what they leave (R3, R85, R86,
R143). -/
structure SessionRevoked (p : Port) (e : Byte) (s t : State) : Prop where
  rank : t.rank = { s.rank with votes := s.rank.votes.put p none }
  others : ∀ b, (s.banks.look b).state.owner? ≠ some ⟨p, e⟩ → (t.banks.look b).state = (s.banks.look b).state
  moves : ∀ b, ∃ may, Moves may (s.banks.look b).state (t.banks.look b).state
  revokedFrom : ∀ b x, (t.banks.look b).revokedFrom = some x ↔ (s.banks.look b).revokedFrom = some x ∧ x.owner ≠ ⟨p, e⟩
  rest : SameBut [.links, .queues, .banks, .mover, .rank, .fault] s t

theorem State.discarded_revokedFrom (s : State) (p : Port) (e : Byte) (c : SessionEnd) (b : Bank) (x : RevokedFrom) :
    ((s.discarded p e c).banks.look b).revokedFrom = some x ↔ (s.banks.look b).revokedFrom = some x ∧ x.owner ≠ ⟨p, e⟩ := by
  rw [State.discarded, State.forget, Table.look_map, Option.filter_eq_some_iff]
  simp [State.discardQueue]

theorem State.revokedAll_revoked (s : State) (p : Port) (e : Byte) (c : SessionEnd) : SessionRevoked p e s (s.revokedAll p e c) := by
  obtain ⟨-, -, -, states, -, same⟩ := s.discarded_parts p e c
  obtain ⟨alone, -, -⟩ := s.revokedAll_parts p e c
  let v := allBanks.foldl (State.revokeOwned ⟨p, e⟩ c.reason) (s.discarded p e c)
  have banks : (s.revokedAll p e c).banks = v.banks := by
    simp only [State.revokedAll, State.recordEnd, v]
    cases c.fault? <;> simp
  have revoked : SameBut [.links, .queues, .banks, .mover, .fault] (s.discarded p e c) v := fun x hx => by
    cases x <;> first
      | exact absurd hx (by decide)
      | exact foldl_keeps _ _ (fun u b => by simp) _ _
  have ended : SameBut [.rank, .fault] v (s.revokedAll p e c) := fun x hx => by
    simp only [State.revokedAll, State.recordEnd, v]
    cases c.fault? <;> cases x <;> simp [Part.Agree] at hx ⊢
  refine ⟨?_, fun b other => ?_, fun b => ?_, fun b x => ?_, ?_⟩
  · have before : v.rank = s.rank := (revoked .rank (by decide)).trans (same .rank (by decide))
    rw [← before]
    simp only [State.revokedAll, State.recordEnd, v]
    cases c.fault? <;> simp [State.setVote]
  · rw [banks, State.revokesOwned_others c.reason allBanks (by rwa [states]), states]
  · rw [banks, ← states]
    exact ⟨_, (State.revokesOwned_moves ⟨p, e⟩ c.reason allBanks (s.discarded p e c)).banks b⟩
  · rw [alone.revokedFrom, s.discarded_revokedFrom p e c b x]
  · exact ((same.mono (by decide)).trans (revoked.mono (by decide))).trans (ended.mono (by decide))

/-- A bank taken from its owner keeps its row (R17). -/
theorem Moves.revoking_row {may : Owner → RevokeReason → Prop} {x : BankState} {r : Revocation} (h : Moves may x (.revoking r)) :
    (∀ l, x = .opened l → r.row = l.row) ∧ ∀ y, x = .revoking y → r.row = y.row := by
  cases h with
  | revoked l _ row => exact ⟨fun _ same => by cases same; exact row, nofun⟩
  | revoking y _ row => exact ⟨nofun, fun _ same => by cases same; exact row⟩

/-! ### The vote and the temperature (R102, R128, R143) -/

/-- The end of a happening changes no vote (R124). -/
theorem State.settle_votes (s : State) : s.settle.rank.votes = s.rank.votes := by
  obtain ⟨i, rank⟩ := s.settle_rank
  rw [rank]

/-- With another master awake the end of a session begins no sleep entry: its last effect is the thermal state's evaluation without the
port's temperature (R128, R143). -/
theorem State.endSession_awake {s : State} {p : Port} {e : Byte} (c : SessionEnd) (begun : s.rank.sleepBegun = false)
    (other : ∃ q, q ≠ p ∧ s.rank.votes.look q = some .awake) :
    s.endSession p e c = ((s.revokedAll p e c).forgetTemperature p).evalThermal (.sessionEnd p) id ∧
      ((s.revokedAll p e c).forgetTemperature p).awakeMaster := by
  obtain ⟨q, differs, vote⟩ := other
  have rank := (s.revokedAll_revoked p e c).rank
  have still : (s.revokedAll p e c).awakeMaster := by
    rw [State.awakeMaster, rank]
    exact ⟨begun, q, by rw [Table.look_put_other _ _ _ _ (Ne.symm differs), vote]⟩
  exact ⟨by rw [State.endSession_eq, State.judgeUnanimity_awake _ _ still], still⟩

/-- What the end of a session with another master awake makes of the banks, the votes, the temperatures and the thermal state (R102,
R143). -/
theorem State.endSession_awake_parts {s : State} {p : Port} {e : Byte} (c : SessionEnd) (begun : s.rank.sleepBegun = false)
    (other : ∃ q, q ≠ p ∧ s.rank.votes.look q = some .awake) :
    (s.endSession p e c).banks = (s.revokedAll p e c).banks ∧ (s.endSession p e c).rank.votes = s.rank.votes.put p none ∧
      (s.endSession p e c).refresh.table = s.refresh.table.put p none ∧ ThermalRule s (s.endSession p e c) ∧
      SameBut [.links, .queues, .banks, .mover, .refresh, .rank, .fault] s (s.endSession p e c) := by
  obtain ⟨rank, -, -, -, rest⟩ := s.revokedAll_revoked p e c
  obtain ⟨ends, awake⟩ := State.endSession_awake (e := e) c begun other
  obtain ⟨thermal, table, thot, votes, -, stays⟩ := State.evalThermal_awake awake ends
  have refresh : (s.revokedAll p e c).refresh = s.refresh := rest .refresh (by decide)
  have prof : ((s.revokedAll p e c).forgetTemperature p).prof = s.prof := congrArg ProfileStore.active (rest .profile (by decide))
  have cleared : ((s.revokedAll p e c).forgetTemperature p).refresh = { s.refresh with table := s.refresh.table.put p none } := by
    rw [State.forgetTemperature, refresh]
  have forgotten : SameBut [.refresh] (s.revokedAll p e c) ((s.revokedAll p e c).forgetTemperature p) := fun x hx => by
    cases x <;> simp [Part.Agree, State.forgetTemperature] at hx ⊢
  refine ⟨stays .banks (by decide), votes.trans (congrArg (fun r => r.votes) rank), by rw [table, cleared], ?_,
    ((rest.mono (by decide)).trans (forgotten.mono (by decide))).trans (stays.mono (by decide))⟩
  rw [ThermalRule, thermal, table, thot, State.thermalNext_hot, prof, cleared]

end Sys2Proof.Machine

namespace Sys2Proof.Proofs

open Sys2Proof Sys2Proof.Machine

/-- Settles O19: the end of the session as `SessionEnded` says it, with its revocations bank by bank (`SessionRevoked`), and its last
effect the evaluation of the thermal state (`State.endSession_awake`). -/
theorem linkDownEndsTheSession : Obligations.LinkDownEndsTheSession := by
  intro s p e current begun other l
  obtain ⟨link, queue, slots, spaces, revoked, -, recorded, -, -, -⟩ := s.endSession_ended p e .lost
  obtain ⟨-, others, moves, revokedFrom, -⟩ := s.revokedAll_revoked p e .lost
  obtain ⟨banks, votes, table, thermal, rest⟩ := State.endSession_awake_parts (e := e) .lost begun other
  have settled := (s.endSession p e .lost).settle_sameBut
  have taken (b : Bank) (owned : (s.banks.look b).state.owner? = some ⟨p, e⟩) : ∃ x,
      ((s.endSession p e .lost).banks.look b).state = .revoking x ∧ x.owner = ⟨p, e⟩ ∧ x.reason = .portLost ∧
        ∃ may, Moves may (s.banks.look b).state (.revoking x) := by
    obtain ⟨x, held, owner, reason⟩ := revoked b owned
    obtain ⟨may, moved⟩ := moves b
    rw [← banks, held] at moved
    exact ⟨x, held, owner, reason, may, moved⟩
  have final : (s.endSession p e .lost).settle.banks = (s.endSession p e .lost).banks := settled .banks (by decide)
  have data : (s.endSession p e .lost).settle.mover = (s.endSession p e .lost).mover := settled .mover (by decide)
  have unit : (s.endSession p e .lost).settle.refresh = (s.endSession p e .lost).refresh := settled .refresh (by decide)
  have links : (s.endSession p e .lost).settle.links = (s.endSession p e .lost).links := settled .links (by decide)
  have fault : (s.endSession p e .lost).settle.fault = (s.endSession p e .lost).fault := settled .fault (by decide)
  refine ⟨_, exec_linkDown_session current, by rw [links]; exact link, State.settle_queue_empty queue, by rw [data, slots],
    by rw [data, spaces], fun b r held owner => ?_, fun b r held owner => ?_, fun b foreign => ?_, fun b x => ?_,
    fun room => ?_, (State.settle_votes _).trans votes, by rw [unit, table], ?_, (rest.mono (by decide)).trans (settled.mono (by decide))⟩
  · obtain ⟨x, now, owned, reason, may, moved⟩ := taken b (by rw [held, ← owner]; rfl)
    exact ⟨x, by rw [final, now], moved.revoking_row.1 r held, owned, reason⟩
  · obtain ⟨x, now, owned, reason, may, moved⟩ := taken b (by rw [held, ← owner]; rfl)
    exact ⟨x, by rw [final, now], moved.revoking_row.2 r held, owned, reason⟩
  · rw [final, banks, others b foreign]
  · rw [final, banks, revokedFrom]
  · rw [fault]
    exact recorded .portLost rfl room
  · rw [ThermalRule, unit]
    exact thermal

end Sys2Proof.Proofs
end

section
/-! PROOFS. Every command leaves the idle timer and the waiting-reasons of the front entries as assessed (R48, R54, R124): O15. -/

namespace Sys2Proof.Machine

/-! ### What closes a happening assesses (R54, R124) -/

/-- The idle timer's own state is none of its conditions (R124). -/
theorem State.idleTimerHolds_withIdle (s : State) (i : IdleTimer) : (s.withIdle i).idleTimerHolds = s.idleTimerHolds := rfl

/-- The idle timer judged is STOPPED exactly while its conditions do not hold (R124). -/
theorem State.judgeIdle_idle (s : State) : s.judgeIdle.rank.idle = .stopped ↔ s.idleTimerHolds = false := by
  unfold State.judgeIdle
  cases idle : s.rank.idle <;> cases holds : s.idleTimerHolds <;> simp [idle]

theorem State.judgeIdle_holds (s : State) : s.judgeIdle.idleTimerHolds = s.idleTimerHolds := by
  obtain ⟨i, judged⟩ := s.judgeIdle_withIdle
  rw [judged, s.idleTimerHolds_withIdle i]

theorem State.reassess_entries (s : State) (p : Port) :
    (s.reassess.queues.look p).entries = (s.queues.look p).entries.map fun e => { e with waiting := s.waitingOf p e } := by
  simp [State.reassess]

/-- Waiting-reasons decide no condition of the idle timer (R124). -/
theorem State.reassess_holds (s : State) : s.reassess.idleTimerHolds = s.idleTimerHolds := by
  have empty : s.reassess.queuesEmpty = s.queuesEmpty := by
    rw [Bool.eq_iff_iff]
    simp [State.queuesEmpty, Table.all_iff, s.reassess_entries]
  simp only [State.idleTimerHolds, State.rankIdle, empty]
  rfl

/-- A front entry after the assessment is the one before it, with its waiting-reason set (R54). -/
theorem State.reassess_front {s : State} {p : Port} {b : Bank} {e : Entry} (front : s.reassess.front p b = some e) :
    ∃ e₀, s.front p b = some e₀ ∧ e = { e₀ with waiting := s.waitingOf p e₀ } := by
  rw [State.front, s.reassess_entries p, List.find?_map, Option.map_eq_some_iff] at front
  obtain ⟨e₀, found, rfl⟩ := front
  exact ⟨e₀, found, rfl⟩

/-- What closes a happening leaves everything as assessed, whatever came before (R54, R124). -/
theorem State.settle_assessed (s : State) : s.settle.Assessed := by
  let v := s.judgeIdle
  refine ⟨?_, fun p b e front => ?_⟩
  · have holds : s.settle.idleTimerHolds = s.idleTimerHolds := v.reassess_holds.trans s.judgeIdle_holds
    rw [holds]
    exact s.judgeIdle_idle
  · obtain ⟨e₀, found, rfl⟩ := State.reassess_front (s := v) front
    have bank : e₀.bank = b := by simpa using List.find?_some found
    have first : v.isFront p e₀ = true := by rw [State.isFront, bank, found, beq_self_eq_true]
    have same (w : Option WaitReason) : s.settle.outcome p { e₀ with waiting := w } = v.outcome p e₀ := rfl
    have unmet (w : Option WaitReason) : s.settle.unmet p { e₀ with waiting := w } = v.unmet p e₀ := rfl
    rw [same, unmet]
    refine ⟨fun candidate => ?_, fun contend wait => ?_⟩
    · simp only [State.waitingOf, first, if_true, candidate]
    · simp only [State.waitingOf, first, if_true, wait]

/-! ### States in which an assessment comes out alike -/

/-- An assessment of `t` finds what one of `s` finds: the idle timer and its conditions, and for each front entry its outcome and what it
waits for (R54, R124). -/
structure State.Alike (s t : State) : Prop where
  idle : t.rank.idle = .stopped ↔ s.rank.idle = .stopped
  holds : t.idleTimerHolds = s.idleTimerHolds
  front : ∀ p b e, t.front p b = some e → ∃ e₀, s.front p b = some e₀ ∧ e.waiting = e₀.waiting ∧
    t.outcome p e = s.outcome p e₀ ∧ t.unmet p e = s.unmet p e₀

theorem State.Alike.assessed {s t : State} (h : s.Alike t) (assessed : s.Assessed) : t.Assessed := by
  obtain ⟨idle, fronts⟩ := assessed
  refine ⟨by rw [h.idle, h.holds, idle], fun p b e front => ?_⟩
  obtain ⟨e₀, found, waiting, outcome, unmet⟩ := h.front p b e front
  rw [waiting, outcome, unmet]
  exact fronts p b e₀ found

/-- What readiness and the idle timer are judged by is the same in `t` as in `s`, the queues apart (R53, R97, R124). -/
structure State.SameGrounds (s t : State) : Prop where
  epoch : ∀ p, t.epoch? p = s.epoch? p
  evaluate : ∀ b o r, evaluate o r (t.banks.look b) = evaluate o r (s.banks.look b)
  closed : ∀ b, (t.banks.look b).state = .closed ↔ (s.banks.look b).state = .closed
  holds : t.holds.holds = s.holds.holds
  window : t.holds.window = s.holds.window
  ports : t.mover.ports = s.mover.ports
  prof : t.prof = s.prof
  state : t.rank.state = s.rank.state
  stopPending : t.rank.stopPending = s.rank.stopPending
  rest : SameBut [.links, .epochCounter, .queues, .banks, .holds, .arbiter, .mover, .rank, .profile, .fault, .capture, .freeIndex,
    .pending] s t

theorem State.SameGrounds.idleTimerHolds {s t : State} (h : s.SameGrounds t) (empty : t.queuesEmpty = s.queuesEmpty) :
    t.idleTimerHolds = s.idleTimerHolds := by
  have closed : t.allClosed = s.allClosed := by
    rw [Bool.eq_iff_iff, State.allClosed_iff, State.allClosed_iff]
    exact forall_congr' h.closed
  have drain : t.drain = s.drain := h.rest .drain (by decide)
  have refresh : t.refresh = s.refresh := h.rest .refresh (by decide)
  simp only [State.idleTimerHolds, State.rankIdle, State.pullInPossible, h.state, closed, drain, empty, h.ports, h.prof, refresh,
    h.stopPending]

/-- A request's holds are met alike, by its kind and its bank (R24, R40). -/
theorem State.SameGrounds.requestHoldsMet {s t : State} (h : s.SameGrounds t) {e e₀ : Entry} (bank : e.bank = e₀.bank)
    (request : e.request = e₀.request) : t.requestHoldsMet e = s.requestHoldsMet e₀ := by
  have time : t.time = s.time := h.rest .time (by decide)
  have met (id : HoldId) : t.met id = s.met id := by rw [State.met, h.holds, time, State.met]
  have room : t.hasRoom = s.hasRoom := by
    rw [State.hasRoom, State.windowCount, h.window, h.prof, time, State.hasRoom, State.windowCount]
  simp only [State.requestHoldsMet, request, bank, State.openHoldsMet, State.readHoldsMet, State.writeHoldsMet, State.closeHoldsMet, met,
    room]

/-- The outcome and the unmet condition of an entry go by its request and its bank alone (R49 to R51, R53). -/
theorem State.SameGrounds.entry {s t : State} (h : s.SameGrounds t) (p : Port) {e e₀ : Entry} (bank : e.bank = e₀.bank)
    (request : e.request = e₀.request) : t.outcome p e = s.outcome p e₀ ∧ t.unmet p e = s.unmet p e₀ := by
  have time : t.time = s.time := h.rest .time (by decide)
  have drain : t.drain = s.drain := h.rest .drain (by decide)
  have calibration : t.calibration = s.calibration := h.rest .calibration (by decide)
  refine ⟨?_, ?_⟩
  · simp only [State.outcome, State.frameEpoch, h.epoch, request, bank, h.evaluate]
  · have busy : t.calibrationBusy = s.calibrationBusy := by rw [State.calibrationBusy, calibration, time, State.calibrationBusy]
    have lock : t.lockEnded = s.lockEnded := by rw [State.lockEnded, calibration, time, State.lockEnded]
    rw [State.unmet, h.state, State.unmet]
    simp only [request, drain, busy, lock, State.spacesInUse, h.ports, h.requestHoldsMet bank request]
    rfl

theorem State.SameGrounds.alike {s t : State} (h : s.SameGrounds t) (queues : t.queues = s.queues)
    (idle : t.rank.idle = .stopped ↔ s.rank.idle = .stopped) : s.Alike t where
  idle := idle
  holds := h.idleTimerHolds (by rw [State.queuesEmpty, queues, State.queuesEmpty])
  front p b e front := by
    rw [State.front, queues] at front
    exact ⟨e, front, rfl, h.entry p rfl rfl⟩

/-- Nothing that readiness and the idle timer are judged by has changed, and no session has. -/
theorem State.SameGrounds.of_rest {s t : State} (epoch : ∀ p, t.epoch? p = s.epoch? p)
    (rest : SameBut [.links, .epochCounter, .arbiter, .fault, .capture, .freeIndex, .pending] s t) : s.SameGrounds t := by
  have banks : t.banks = s.banks := rest .banks (by decide)
  have holds : t.holds = s.holds := rest .holds (by decide)
  have mover : t.mover = s.mover := rest .mover (by decide)
  have rank : t.rank = s.rank := rest .rank (by decide)
  have profile : t.profile = s.profile := rest .profile (by decide)
  exact ⟨epoch, fun b o r => by rw [banks], fun b => by rw [banks], by rw [holds], by rw [holds], by rw [mover],
    congrArg ProfileStore.active profile, by rw [rank], by rw [rank], rest.mono (by decide)⟩

theorem State.Alike.of_rest {s t : State} (epoch : ∀ p, t.epoch? p = s.epoch? p)
    (rest : SameBut [.links, .epochCounter, .arbiter, .fault, .capture, .freeIndex, .pending] s t) : s.Alike t :=
  (SameGrounds.of_rest epoch rest).alike (rest .queues (by decide)) (by rw [show t.rank = s.rank from rest .rank (by decide)])

theorem State.idleTimerHolds_of_inactive {s : State} (inactive : s.rank.state ≠ .active) : s.idleTimerHolds = false := by
  simp [State.idleTimerHolds, State.rankIdle, inactive]

/-- Out of ACTIVE an assessment goes by the sessions and the banks alone (R53, R124). -/
theorem State.Alike.of_inactive {s t : State} (before : s.rank.state ≠ .active) (after : t.rank.state ≠ .active)
    (idle : t.rank.idle = s.rank.idle) (links : t.links = s.links) (queues : t.queues = s.queues) (banks : t.banks = s.banks) :
    s.Alike t where
  idle := by rw [idle]
  holds := by rw [State.idleTimerHolds_of_inactive before, State.idleTimerHolds_of_inactive after]
  front p b e front := by
    rw [State.front, queues] at front
    exact ⟨e, front, rfl, by simp only [State.outcome, State.frameEpoch, State.epoch?, links, banks],
      by rw [State.unmet, if_pos after, State.unmet, if_pos before]⟩

/-- What evaluation asks of a lease is its row and its owner (R49 to R51). -/
theorem evaluate_opened {l l' : Lease} (row : l'.row = l.row) (owner : l'.owner = l.owner) (o : Owner) (r : Request)
    (from_ : Option RevokedFrom) : evaluate o r ⟨.opened l', from_⟩ = evaluate o r ⟨.opened l, from_⟩ := by
  cases r <;> simp [evaluate, evalRowOpen, evalColumn, evalRowClose, row, owner]

/-- A lease that keeps its row and its owner is the same ground for readiness (R49 to R51). -/
theorem State.Alike.of_lease {s t : State} {b : Bank} {l l' : Lease} (held : (s.banks.look b).state = .opened l)
    (row : l'.row = l.row) (owner : l'.owner = l.owner) (epoch : ∀ p, t.epoch? p = s.epoch? p)
    (banks : t.banks = s.banks.put b { s.banks.look b with state := .opened l' })
    (rest : SameBut [.links, .banks] s t) : s.Alike t := by
  have holds : t.holds = s.holds := rest .holds (by decide)
  have mover : t.mover = s.mover := rest .mover (by decide)
  have rank : t.rank = s.rank := rest .rank (by decide)
  have profile : t.profile = s.profile := rest .profile (by decide)
  have before : s.banks.look b = ⟨.opened l, (s.banks.look b).revokedFrom⟩ := by rw [← held]
  refine SameGrounds.alike ⟨epoch, fun x o r => ?_, fun x => ?_, by rw [holds], by rw [holds], by rw [mover],
    congrArg ProfileStore.active profile, by rw [rank], by rw [rank], rest.mono (by decide)⟩ (rest .queues (by decide)) (by rw [rank])
  · rw [banks, Table.look_put]
    split
    · rename_i same
      rw [← same, before]
      exact evaluate_opened row owner o r _
    · rfl
  · rw [banks, Table.look_put]
    split
    · rename_i same
      rw [← same, held]
      exact iff_of_false nofun nofun
    · rfl

/-! ### Sessions that stand (R134 to R141) -/

theorem State.modLink_epoch {s : State} {p : Port} {f : PortLink → PortLink}
    (same : (f (s.links.look p)).session.epoch? = (s.links.look p).session.epoch?) (q : Port) :
    (s.modLink p f).epoch? q = s.epoch? q := by
  simp only [State.epoch?, State.modLink, Table.look_modify]
  split
  · rename_i here
    rw [← here, same]
  · rfl

theorem State.reply_epoch (s : State) (p : Port) (tag : Byte) (m : Message) (q : Port) : (s.reply p tag m).epoch? q = s.epoch? q :=
  State.modLink_epoch rfl q

theorem State.notice_epoch (s : State) (p : Port) (m : Message) (q : Port) : (s.notice p m).epoch? q = s.epoch? q :=
  State.modLink_epoch rfl q

theorem State.refuse_epoch (s : State) (p : Port) (tag : Byte) (r : RefusalReason) (q : Port) :
    (s.refuse p tag r).epoch? q = s.epoch? q := (s.refuse_appends p tag r).epoch q

theorem State.inSequence_epoch (s : State) (p q : Port) : (s.inSequence p).epoch? q = s.epoch? q := State.modLink_epoch rfl q

/-- A frame out of sequence changes no session (R136). -/
theorem State.outOfSequence_epoch (s : State) (p q : Port) : (s.outOfSequence p).epoch? q = s.epoch? q := by
  have discarded : (s.discardFrame p .sequence).epoch? q = s.epoch? q := by simp [State.epoch?]
  rw [State.outOfSequence]
  split
  · exact discarded
  · exact (State.modLink_epoch (s := (s.discardFrame p .sequence).notice p _) rfl q).trans
      (((s.discardFrame p .sequence).notice_epoch p _ q).trans discarded)

/-- A LEAVE taken leaves the session current (R141). -/
theorem State.takeLeave_epoch (s : State) (p : Port) (tag : Byte) (q : Port) : (s.takeLeave p tag).epoch? q = s.epoch? q := by
  unfold State.takeLeave
  split
  · rename_i e session
    exact State.modLink_epoch (by rw [session]; rfl) q
  · rfl
  · rfl
  · rfl

/-! ### Commands that assess nothing -/

theorem State.refuse_alike (s : State) (p : Port) (tag : Byte) (r : RefusalReason) : s.Alike (s.refuse p tag r) :=
  .of_rest (s.refuse_epoch p tag r) fun x hx => by cases x <;> simp [Part.Agree] at hx ⊢

theorem State.reply_alike (s : State) (p : Port) (tag : Byte) (m : Message) : s.Alike (s.reply p tag m) :=
  .of_rest (s.reply_epoch p tag m) fun x hx => by cases x <;> simp [Part.Agree] at hx ⊢

theorem State.inSequence_alike (s : State) (p : Port) : s.Alike (s.inSequence p) :=
  .of_rest (s.inSequence_epoch p) fun x hx => by cases x <;> simp [Part.Agree] at hx ⊢

theorem State.outOfSequence_alike (s : State) (p : Port) : s.Alike (s.outOfSequence p) :=
  .of_rest (s.outOfSequence_epoch p) fun x hx => by cases x <;> simp [Part.Agree] at hx ⊢

theorem State.discardFrame_alike (s : State) (p : Port) (d : FaultDetail) : s.Alike (s.discardFrame p d) :=
  .of_rest (fun q => by simp [State.epoch?]) fun x hx => by cases x <;> simp [Part.Agree] at hx ⊢

theorem State.takeLeave_alike (s : State) (p : Port) (tag : Byte) : s.Alike (s.takeLeave p tag) := by
  refine .of_rest (s.takeLeave_epoch p tag) fun x hx => ?_
  unfold State.takeLeave
  split <;> cases x <;> simp [Part.Agree] at hx ⊢

/-- LINK_UP makes LINKED of DOWN, and neither has a session (R134). -/
theorem State.linkUp_alike {s : State} {p : Port} (down : (s.links.look p).session = .down) :
    s.Alike (s.modLink p fun l => { l with session := .linked, expected := 0, resync := false, outSeq := 0, outbound := [] }) :=
  .of_rest (State.modLink_epoch (by rw [down]; rfl)) fun x hx => by cases x <;> simp [Part.Agree] at hx ⊢

/-- What the Fault Unit keeps is no ground of readiness. -/
theorem State.fault_alike (s : State) (f : FaultUnit) : s.Alike { s with fault := f } :=
  .of_rest (fun _ => rfl) fun x hx => by cases x <;> simp [Part.Agree] at hx ⊢

theorem State.captured_alike (s : State) (address : BitVec 16) : s.Alike (s.captured address) := by
  unfold State.captured
  split <;> exact .of_rest (fun _ => rfl) fun x hx => by cases x <;> simp [Part.Agree] at hx ⊢

/-- The status of a command and the expiry of a timer that runs (R118, R122, R124). -/
theorem State.rank_alike {s : State} (k : RankController) (state : k.state = s.rank.state) (stop : k.stopPending = s.rank.stopPending)
    (idle : k.idle = .stopped ↔ s.rank.idle = .stopped) : s.Alike { s with rank := k } :=
  SameGrounds.alike ⟨fun _ => rfl, fun _ _ _ => rfl, fun _ => .rfl, rfl, rfl, rfl, rfl, state, stop,
    fun x hx => by cases x <;> simp [Part.Agree] at hx ⊢⟩ rfl idle

theorem State.setStatus_alike (s : State) (c : CommandStatus) : s.Alike (s.setStatus c) := s.rank_alike _ rfl rfl .rfl

/-- Of the profile store readiness asks for the active copy alone (R163). -/
theorem State.profile_alike {s : State} (f : ProfileStore) (active : f.active = s.profile.active) : s.Alike { s with profile := f } :=
  SameGrounds.alike ⟨fun _ => rfl, fun _ _ _ => rfl, fun _ => .rfl, rfl, rfl, rfl, active, rfl, rfl,
    fun x hx => by cases x <;> simp [Part.Agree] at hx ⊢⟩ rfl .rfl

/-- The bursts under way and the data bus are no ground of readiness (R33). -/
theorem State.startBurst_alike (s : State) (b : Burst) : s.Alike (s.startBurst b) :=
  SameGrounds.alike ⟨fun _ => rfl, fun _ _ _ => rfl, fun _ => .rfl, rfl, rfl, rfl, rfl, rfl, rfl,
    fun x hx => by cases x <;> simp [Part.Agree, State.startBurst] at hx ⊢⟩ rfl .rfl

/-- A phase of the rank that follows another out of ACTIVE (R119, R120, R126). -/
theorem State.setRank_alike {s : State} {x : RankState} (before : s.rank.state ≠ .active) (after : x ≠ .active) :
    s.Alike (s.setRank x) := .of_inactive before after rfl rfl rfl rfl

theorem ageTag_front (tag : Byte) (b : Bank) (l : List Entry) {e : Entry} (found : (ageTag tag l).find? (fun x => x.bank == b) = some e) :
    ∃ e₀, l.find? (fun x => x.bank == b) = some e₀ ∧ e.bank = e₀.bank ∧ e.request = e₀.request ∧ e.waiting = e₀.waiting := by
  induction l with
  | nil => cases found
  | cons x l ih =>
    by_cases tagged : x.tag = tag
    · by_cases bank : x.bank = b
      · simp only [ageTag, if_pos tagged, List.find?_cons, bank, beq_self_eq_true, Option.some.injEq] at found
        exact ⟨x, by simp [bank], by rw [← found]; exact bank.symm, by rw [← found], by rw [← found]⟩
      · simp only [ageTag, if_pos tagged, List.find?_cons, beq_eq_false_iff_ne.mpr bank] at found
        exact ⟨e, by simpa [bank] using found, rfl, rfl, rfl⟩
    · by_cases bank : x.bank = b
      · simp only [ageTag, if_neg tagged, List.find?_cons, bank, beq_self_eq_true, Option.some.injEq] at found
        exact ⟨x, by simp [bank], by rw [← found], by rw [← found], by rw [← found]⟩
      · simp only [ageTag, if_neg tagged, List.find?_cons, beq_eq_false_iff_ne.mpr bank] at found
        obtain ⟨e₀, first, same⟩ := ih found
        exact ⟨e₀, by simpa [bank] using first, same⟩

theorem ageTag_length (tag : Byte) (l : List Entry) : (ageTag tag l).length = l.length := by
  induction l with
  | nil => rfl
  | cons x l ih =>
    unfold ageTag
    split
    · rfl
    · rw [List.length_cons, ih, List.length_cons]

/-- An entry that becomes aged keeps its place, its request and its waiting-reason (R56). -/
theorem State.aged_alike (s : State) (p : Port) (tag : Byte) :
    s.Alike (s.modQueue p fun q => { q with entries := ageTag tag q.entries }) := by
  have same : s.SameGrounds (s.modQueue p fun q => { q with entries := ageTag tag q.entries }) :=
    ⟨fun _ => rfl, fun _ _ _ => rfl, fun _ => .rfl, rfl, rfl, rfl, rfl, rfl, rfl,
      fun x hx => by cases x <;> simp [Part.Agree] at hx ⊢⟩
  refine ⟨.rfl, same.idleTimerHolds ?_, fun q b e front => ?_⟩
  · rw [Bool.eq_iff_iff]
    simp only [State.queuesEmpty, Table.all_iff, State.modQueue, Table.look_modify, List.isEmpty_iff]
    refine forall_congr' fun q => ?_
    split
    · rw [← List.length_eq_zero_iff, ageTag_length, List.length_eq_zero_iff]
    · rfl
  · by_cases here : p = q
    · subst here
      rw [State.front, State.modQueue, Table.look_modify_same] at front
      obtain ⟨e₀, found, bank, request, waiting⟩ := ageTag_front tag b _ front
      exact ⟨e₀, found, waiting, same.entry p bank request⟩
    · rw [State.front, State.modQueue, Table.look_modify_other _ _ _ _ here] at front
      exact ⟨e, front, rfl, same.entry q rfl rfl⟩

/-- LEASE_WARNING marks the lease as warned (R10). -/
theorem State.sendWarning_alike {s : State} {b : Bank} {l : Lease} (held : (s.banks.look b).state = .opened l) :
    s.Alike (s.sendWarning b l) := by
  refine .of_lease (l' := { l with warned := true }) held rfl rfl (fun q => ?_) ?_ fun x hx => ?_
  · exact s.notice_epoch l.owner.port _ q
  · simp [State.sendWarning, State.modBank, Table.modify]
  · cases x <;> simp [Part.Agree] at hx ⊢

/-- LEASE_EXTEND sets the deadline and the count of a lease, or denies (R13). -/
theorem State.takeExtend_alike (s : State) (p : Port) (tag bank : Byte) : s.Alike (s.takeExtend p tag bank) := by
  unfold State.takeExtend
  split
  · exact s.reply_alike p tag _
  · rename_i b l extends_
    have held : (s.banks.look b).state = .opened l := by
      unfold State.extendCheck at extends_
      repeat' split at extends_
      all_goals cases extends_
      assumption
    refine .of_lease (l' := s.extended l) held rfl rfl (fun q => ?_) ?_ fun x hx => ?_
    · exact (s.modBank b _).reply_epoch p tag _ q
    · simp [State.modBank, Table.modify]
    · cases x <;> simp [Part.Agree] at hx ⊢

/-- After a reset no queue holds an entry, the rank is OFFLINE and the idle timer STOPPED (R115, R170). -/
theorem State.Assessed.of_reset {s : State} (state : s.rank.state = .offline) (idle : s.rank.idle = .stopped)
    (empty : ∀ p, (s.queues.look p).entries = []) : s.Assessed := by
  refine ⟨iff_of_true idle (State.idleTimerHolds_of_inactive (by rw [state]; nofun)), fun p b e front => ?_⟩
  rw [State.front, empty] at front
  cases front

theorem State.powerOn_queues (s : State) (lanes : Table Bool 4) (p : Port) : ((s.powerOn lanes).queues.look p).entries = [] := by
  simp [State.powerOn, State.reset, PortQueue.reset]

theorem State.cleared_queues (s : State) (p : Port) : (s.cleared.queues.look p).entries = [] := by
  simp [State.cleared, State.reset, PortQueue.reset]

/-! ### Every command -/

/-- An answer to a state in which all is as assessed. -/
def Assesses (o : Host.Outcome State Fault Refusal) : Prop := ∀ t, o = .next t → t.Assessed

theorem Assesses.settled (s : State) : Assesses (.next s.settle) := by
  rintro _ ⟨⟩
  exact s.settle_assessed

namespace State.Assessed

theorem next {t : State} (h : t.Assessed) : Assesses (.next t) := by
  rintro _ ⟨⟩
  exact h

theorem alike {s t : State} (h : s.Assessed) (same : s.Alike t) : Assesses (.next t) := (same.assessed h).next

/-- A happening that takes place only when it is due (assumption 2). -/
theorem due {s t : State} (h : s.Assessed) {P : Prop} [Decidable P] (ht : P → t.Assessed) : Assesses (if P then .next t else .next s) := by
  split
  · exact (ht ‹_›).next
  · exact h.next

/-- A frame: discarded or refused it leaves all as assessed, and so it is passed on (R135 to R137). -/
theorem receive {s : State} (h : s.Assessed) (p : Port) (hd : Header) (isJoin : Bool) {route : State → State}
    (routed : ∀ v : State, v.Assessed → (route v).Assessed) : (s.receive p hd isJoin route).Assessed := by
  have taken := (s.inSequence_alike p).assessed h
  obtain e | e | ⟨r, e⟩ | e := s.receive_cases p hd isJoin route <;> rw [e]
  · exact h
  · exact (s.outOfSequence_alike p).assessed h
  · exact ((s.inSequence p).refuse_alike p hd.tag r).assessed taken
  · exact routed _ taken

theorem queued {s : State} (h : s.Assessed) (p : Port) (hd : Header) (bank : Byte) (a : Arrival) : (s.queued p hd bank a).Assessed :=
  h.receive p hd false fun _ _ => State.settle_assessed _

theorem takeJoin {s : State} (h : s.Assessed) (p : Port) (tag revision : Byte) : (s.takeJoin p tag revision).Assessed := by
  unfold State.takeJoin
  split
  · exact (s.reply_alike p tag _).assessed h
  · split <;> exact State.settle_assessed _

theorem takeCancel {s : State} (h : s.Assessed) (p : Port) (tag target : Byte) : (s.takeCancel p tag target).Assessed := by
  unfold State.takeCancel
  split
  · exact (s.reply_alike p tag _).assessed h
  · exact State.settle_assessed _

theorem execPowerOnReset (lanes : Table Bool 4) (thot : Bool) (s : State) : Assesses (execPowerOnReset lanes thot s) := by
  have fresh := s.powerOn_queues lanes
  unfold Machine.execPowerOnReset
  split
  · rw [s.powerOn_takeThot lanes]
    exact next (of_reset rfl rfl fresh)
  · exact next (of_reset rfl rfl fresh)

theorem execSoftReset (s : State) : Assesses (execSoftReset s) := by
  have fresh := s.cleared_queues
  unfold Machine.execSoftReset
  split
  · rw [s.cleared_takeThot]
    exact next (of_reset rfl rfl fresh)
  · exact next (of_reset rfl rfl fresh)

theorem execLinkDown {s : State} (h : s.Assessed) (p : Port) : Assesses (execLinkDown p s) := by
  unfold Machine.execLinkDown
  split
  · exact h.next
  all_goals exact .settled _

theorem execHandedToLink {s : State} (h : s.Assessed) (p : Port) : Assesses (execHandedToLink p s) := by
  unfold Machine.execHandedToLink
  split
  · exact .settled _
  all_goals exact h.next

theorem execReadyToLeave {s : State} (h : s.Assessed) (p : Port) : Assesses (execReadyToLeave p s) := by
  unfold Machine.execReadyToLeave
  split
  · exact .settled _
  · exact h.next

theorem execLeaveComplete {s : State} (h : s.Assessed) (p : Port) : Assesses (execLeaveComplete p s) := by
  unfold Machine.execLeaveComplete
  split
  · exact .settled _
  · exact h.next

theorem execBadKindFrame {s : State} (h : s.Assessed) (p : Port) (hd : Header) (kind : Byte) (length : Nat) :
    Assesses (execBadKindFrame p hd kind length s) := by
  unfold Machine.execBadKindFrame
  split
  · exact h.next
  · exact (h.receive p hd _ fun v g => (v.refuse_alike p hd.tag .badKind).assessed g).next

theorem execLeaseWarning {s : State} (h : s.Assessed) (b : Bank) : Assesses (execLeaseWarning b s) := by
  unfold Machine.execLeaseWarning
  split
  · exact h.due fun _ => (State.sendWarning_alike ‹_›).assessed h
  all_goals exact h.next

theorem execLeaseExpiry {s : State} (h : s.Assessed) (b : Bank) : Assesses (execLeaseExpiry b s) := by
  unfold Machine.execLeaseExpiry
  split
  · exact h.due fun _ => State.settle_assessed _
  all_goals exact h.next

theorem execEntryAged {s : State} (h : s.Assessed) (p : Port) (tag : Byte) : Assesses (execEntryAged p tag s) := by
  unfold Machine.execEntryAged
  split
  · exact h.next
  · exact h.due fun _ => (s.aged_alike p tag).assessed h

theorem execWriteBurstStart {s : State} (h : s.Assessed) : Assesses (execWriteBurstStart s) := by
  unfold Machine.execWriteBurstStart
  split
  · exact h.next
  · exact h.due fun _ => (s.startBurst_alike _).assessed h

theorem execReadBurstStart {s : State} (h : s.Assessed) : Assesses (execReadBurstStart s) := by
  unfold Machine.execReadBurstStart
  split
  · exact h.next
  · exact h.due fun _ => (s.startBurst_alike _).assessed h

theorem execWriteDataEnd {s : State} (h : s.Assessed) : Assesses (execWriteDataEnd s) := by
  unfold Machine.execWriteDataEnd
  split
  · exact h.next
  · exact h.due fun _ => State.settle_assessed _

theorem execReadDataArrival {s : State} (h : s.Assessed) (data : Block) : Assesses (execReadDataArrival data s) := by
  unfold Machine.execReadDataArrival
  split
  · exact h.next
  · exact h.due fun _ => State.settle_assessed _

/-! The issues of requests and of rank operations, each closed by an assessment or none at all (R68). -/

theorem execRowOpenIssued {s : State} (h : s.Assessed) : Assesses (execRowOpenIssued s) := by
  unfold Machine.execRowOpenIssued
  split
  · exact h.next
  · split
    · exact .settled _
    all_goals exact h.next

theorem execColReadIssued {s : State} (h : s.Assessed) : Assesses (execColReadIssued s) := by
  unfold Machine.execColReadIssued
  split
  · exact h.next
  · split
    · exact .settled _
    all_goals exact h.next

theorem execColWriteIssued {s : State} (h : s.Assessed) : Assesses (execColWriteIssued s) := by
  unfold Machine.execColWriteIssued
  split
  · exact h.next
  · split
    · exact .settled _
    all_goals exact h.next

theorem execRowCloseIssued {s : State} (h : s.Assessed) : Assesses (execRowCloseIssued s) := by
  unfold Machine.execRowCloseIssued
  split
  · exact h.next
  · split
    · exact .settled _
    all_goals exact h.next

theorem execRevocationCloseIssued {s : State} (h : s.Assessed) : Assesses (execRevocationCloseIssued s) := by
  unfold Machine.execRevocationCloseIssued
  split
  · exact h.next
  · split
    · exact .settled _
    all_goals exact h.next

theorem execRefreshIssued {s : State} (h : s.Assessed) : Assesses (execRefreshIssued s) := by
  unfold Machine.execRefreshIssued
  split
  · exact .settled _
  all_goals exact h.next

theorem execModeSetIssued {s : State} (h : s.Assessed) : Assesses (execModeSetIssued s) := by
  unfold Machine.execModeSetIssued
  split
  · exact .settled _
  all_goals exact h.next

theorem execResetHoldEnd {s : State} (h : s.Assessed) : Assesses (execResetHoldEnd s) := by
  unfold Machine.execResetHoldEnd
  split
  · exact h.due fun _ => (State.setRank_alike (by simp [*]) (by nofun)).assessed h
  · exact h.next

theorem execClockSettleEnd {s : State} (h : s.Assessed) : Assesses (execClockSettleEnd s) := by
  unfold Machine.execClockSettleEnd
  split
  · exact h.due fun _ => (State.setRank_alike (by simp [*]) (by nofun)).assessed h
  · exact h.next

theorem execExitWaitEnd {s : State} (h : s.Assessed) : Assesses (execExitWaitEnd s) := by
  unfold Machine.execExitWaitEnd
  split
  · exact h.due fun _ => (State.setRank_alike (by simp [*]) (by nofun)).assessed h
  · exact h.next

theorem execResidencyEnd {s : State} (h : s.Assessed) : Assesses (execResidencyEnd s) := by
  unfold Machine.execResidencyEnd
  split
  · exact h.due fun _ => (State.setRank_alike (by simp [*]) (by nofun)).assessed h
  · exact h.next

/-- An idle timer that is RUNNING is EXPIRED at its time, and STOPPED neither before nor after (R124). -/
theorem execIdleTimerExpiry {s : State} (h : s.Assessed) : Assesses (execIdleTimerExpiry s) := by
  refine h.due fun due => (s.rank_alike { s.rank with idle := .expired } rfl rfl (iff_of_false nofun fun stopped => ?_)).assessed h
  simp [State.idleDue, stopped] at due

theorem execStart {s : State} (h : s.Assessed) : Assesses (execStart s) := by
  unfold Machine.execStart
  repeat' split
  · exact h.alike (s.setStatus_alike _)
  · exact h.alike (s.setStatus_alike _)
  · exact .settled _

theorem execStop {s : State} (h : s.Assessed) : Assesses (execStop s) := by
  have refused := h.alike (s.setStatus_alike .notRunning)
  unfold Machine.execStop
  split
  · exact refused
  · split
    · exact .settled _
    · exact .settled _
    · exact .settled _
    · exact .settled _
    · exact .settled _
    · exact refused
    · exact refused

/-- A COMMIT takes place in OFFLINE, where the active copy is no ground of readiness (R159, R162). -/
theorem execCommit {s : State} (h : s.Assessed) : Assesses (execCommit s) := by
  unfold Machine.execCommit
  split
  · exact h.alike (s.profile_alike _ rfl)
  · rename_i offline
    have state : s.rank.state ≠ .active := by rw [not_not.mp offline]; nofun
    split
    · exact h.alike (.of_inactive state state rfl rfl rfl rfl)
    · exact h.alike (s.profile_alike _ rfl)

theorem execFaultPop {s : State} (h : s.Assessed) : Assesses (execFaultPop s) := by
  unfold Machine.execFaultPop
  split <;> exact h.alike (s.fault_alike _)

theorem exec {s : State} (h : s.Assessed) (c : Instr) : Assesses (exec c s) := by
  cases c with
  | powerOnReset lanes thot => exact execPowerOnReset lanes thot s
  | softReset => exact execSoftReset s
  | linkUp p => exact h.due fun down => (State.linkUp_alike down).assessed h
  | linkDown p => exact h.execLinkDown p
  | thotAsserted => exact .settled _
  | thotDeasserted => exact .settled _
  | frameCrcDiscard p bytes => exact h.due fun _ => (s.discardFrame_alike p .crc).assessed h
  | frameOutOfSequence p seq => exact h.due fun _ => (s.outOfSequence_alike p).assessed h
  | join p hd revision => exact (h.receive p hd true fun _ g => g.takeJoin p hd.tag revision).next
  | leave p hd => exact (h.receive p hd false fun v g => (v.takeLeave_alike p hd.tag).assessed g).next
  | leaseExtend p hd bank => exact (h.receive p hd false fun v g => (v.takeExtend_alike p hd.tag bank).assessed g).next
  | cancel p hd target => exact (h.receive p hd false fun _ g => g.takeCancel p hd.tag target).next
  | sleepVote p hd => exact (h.receive p hd false fun _ _ => State.settle_assessed _).next
  | wake p hd => exact (h.receive p hd false fun _ _ => State.settle_assessed _).next
  | tempReport p hd t => exact (h.receive p hd false fun _ _ => State.settle_assessed _).next
  | rowOpen p hd bank row => exact (h.queued p hd bank _).next
  | colRead p hd bank row column flags => exact (h.queued p hd bank _).next
  | colWrite p hd bank row column flags data => exact (h.queued p hd bank _).next
  | rowClose p hd bank => exact (h.queued p hd bank _).next
  | handedToLink p => exact h.execHandedToLink p
  | readyToLeave p => exact h.execReadyToLeave p
  | leaveComplete p => exact h.execLeaveComplete p
  | holdMet id => exact h.due fun _ => State.settle_assessed _
  | windowEntryLeaves => exact h.due fun _ => State.settle_assessed _
  | leaseWarning b => exact h.execLeaseWarning b
  | leaseExpiry b => exact h.execLeaseExpiry b
  | graceEnd => exact h.due fun _ => State.settle_assessed _
  | intervalTimerExpiry => exact h.due fun _ => State.settle_assessed _
  | entryAged p tag => exact h.execEntryAged p tag
  | writeBurstStart => exact h.execWriteBurstStart
  | readBurstStart => exact h.execReadBurstStart
  | writeDataEnd => exact h.execWriteDataEnd
  | readDataArrival data => exact h.execReadDataArrival data
  | rowOpenIssued => exact h.execRowOpenIssued
  | colReadIssued => exact h.execColReadIssued
  | colWriteIssued => exact h.execColWriteIssued
  | rowCloseIssued => exact h.execRowCloseIssued
  | revocationCloseIssued => exact h.execRevocationCloseIssued
  | refreshIssued => exact h.execRefreshIssued
  | shortCalibrationIssued => exact h.due fun _ => State.settle_assessed _
  | longCalibrationIssued => exact h.due fun _ => State.settle_assessed _
  | modeSetIssued => exact h.execModeSetIssued
  | powerDownEntryIssued => exact h.due fun _ => State.settle_assessed _
  | powerDownExitIssued => exact h.due fun _ => State.settle_assessed _
  | selfRefreshEntryIssued => exact h.due fun _ => State.settle_assessed _
  | selfRefreshExitIssued => exact h.due fun _ => State.settle_assessed _
  | longCalBusyEnd =>
    refine h.due fun _ => ?_
    split <;> exact State.settle_assessed _
  | shortCalBusyEnd => exact h.due fun _ => State.settle_assessed _
  | lockEnd => exact h.due fun _ => State.settle_assessed _
  | resetHoldEnd => exact h.execResetHoldEnd
  | clockSettleEnd => exact h.execClockSettleEnd
  | exitWaitEnd => exact h.execExitWaitEnd
  | modeLoadEnd => exact h.due fun _ => State.settle_assessed _
  | idleTimerExpiry => exact h.execIdleTimerExpiry
  | residencyEnd => exact h.execResidencyEnd
  | wakeEnd => exact h.due fun _ => State.settle_assessed _
  | start => exact h.execStart
  | stop => exact h.execStop
  | commit => exact h.execCommit
  | faultPop => exact h.execFaultPop
  | mgmtErrorClear value => exact h.due fun _ => (s.fault_alike _).assessed h
  | alertMaskWrite value => exact h.alike (s.fault_alike _)
  | stagedProfileWrite field byte value => exact h.alike (s.profile_alike _ rfl)
  | mgmtWriteBad address value => exact h.due fun _ => (s.fault_alike _).assessed h
  | registerCapture address => exact h.alike (s.captured_alike address)
  | badKindFrame p hd kind length => exact h.execBadKindFrame p hd kind length

end State.Assessed

end Sys2Proof.Machine

namespace Sys2Proof.Proofs

open Sys2Proof Sys2Proof.Machine

/-- Settles O15: what a happening's close assesses is as assessed (`State.settle_assessed`), and a command that assesses nothing leaves
the grounds of an assessment (`State.Alike`). -/
theorem assessmentKeptByCommands : Obligations.AssessmentKeptByCommands :=
  fun c _ t assessed run => assessed.exec c t run

end Sys2Proof.Proofs
end

section
/-! PROOFS. Every step keeps the invariants of the sessions and of the Admission Queues (R42, R46, R127, R139, Table 9-1): O13. -/

namespace Sys2Proof.Machine

/-- Each port's current session is the one given, it has a vote where that is given, and its Admission Queue lies within its bounds
(R42, R46). -/
structure State.Ports (s : State) (session : Port → Option Byte) (voting : Port → Bool) : Prop where
  epoch : ∀ p, s.epoch? p = session p
  vote : ∀ p, (s.rank.votes.look p).isSome = voting p
  entries : ∀ p, (s.queues.look p).entries.length ≤ 16
  tags : ∀ p, (s.queues.look p).outstanding.Nodup

/-- From `q` to `r` a queue has lost entries and tags at most. -/
def PortQueue.Shrinks (q r : PortQueue) : Prop := r.entries.length ≤ q.entries.length ∧ r.outstanding.Sublist q.outstanding

theorem PortQueue.Shrinks.refl (q : PortQueue) : q.Shrinks q := ⟨le_rfl, .refl _⟩

namespace State.Ports

section
variable {s t : State} {session : Port → Option Byte} {voting : Port → Bool}

/-- What changes no session and no vote, and adds to no queue. -/
theorem shrunk (h : s.Ports session voting) (epoch : ∀ p, t.epoch? p = s.epoch? p) (votes : t.rank.votes = s.rank.votes)
    (queues : ∀ p, (s.queues.look p).Shrinks (t.queues.look p)) : t.Ports session voting where
  epoch p := (epoch p).trans (h.epoch p)
  vote p := by rw [votes, h.vote]
  entries p := (queues p).1.trans (h.entries p)
  tags p := (h.tags p).sublist (queues p).2

/-- What changes no session, no vote and no queue. -/
theorem kept (h : s.Ports session voting) (epoch : ∀ p, t.epoch? p = s.epoch? p) (votes : t.rank.votes = s.rank.votes)
    (queues : t.queues = s.queues) : t.Ports session voting := h.shrunk epoch votes fun p => by rw [queues]; exact .refl _

/-- What leaves links, votes and queues. -/
theorem same (h : s.Ports session voting) (parts : t.links = s.links ∧ t.queues = s.queues ∧ t.rank.votes = s.rank.votes) :
    t.Ports session voting := by
  obtain ⟨links, queues, votes⟩ := parts
  exact h.kept (fun p => by rw [State.epoch?, links, State.epoch?]) votes queues

/-- Frames sent. -/
theorem sent {kind : OutFrame → Prop} (h : s.Ports session voting) (appends : Appends kind s t)
    (parts : t.queues = s.queues ∧ t.rank.votes = s.rank.votes) : t.Ports session voting :=
  h.kept appends.epoch parts.2 parts.1

theorem ite {P : Prop} [Decidable P] (h : s.Ports session voting) (g : t.Ports session voting) :
    (if P then s else t).Ports session voting := by
  split
  · exact h
  · exact g

/-- One queue that shrinks. -/
theorem modQueue (h : s.Ports session voting) (p : Port) {f : PortQueue → PortQueue} (shrinks : ∀ q : PortQueue, q.Shrinks (f q)) :
    (s.modQueue p f).Ports session voting := by
  refine h.shrunk (fun _ => rfl) rfl fun q => ?_
  rw [State.modQueue, Table.look_modify]
  split
  · rename_i here
    rw [← here]
    exact shrinks _
  · exact .refl _

theorem modLink (h : s.Ports session voting) {p : Port} {f : PortLink → PortLink}
    (stands : (f (s.links.look p)).session.epoch? = (s.links.look p).session.epoch?) : (s.modLink p f).Ports session voting :=
  h.kept (State.modLink_epoch stands) rfl rfl

/-- The Refresh Unit has no part in it. -/
theorem refreshed (h : s.Ports session voting) (r : RefreshUnit) : State.Ports { s with refresh := r } session voting :=
  h.same ⟨rfl, rfl, rfl⟩

theorem withIdle (h : s.Ports session voting) (i : IdleTimer) : (s.withIdle i).Ports session voting := h.same ⟨rfl, rfl, rfl⟩

/-! ### Frames (R22, R117, R145) -/

theorem send (h : s.Ports session voting) (p : Port) (f : OutFrame) : (s.send p f).Ports session voting := h.modLink rfl

theorem reply (h : s.Ports session voting) (p : Port) (tag : Byte) (m : Message) : (s.reply p tag m).Ports session voting := h.send p _

theorem notice (h : s.Ports session voting) (p : Port) (m : Message) : (s.notice p m).Ports session voting := h.send p _

theorem refuse (h : s.Ports session voting) (p : Port) (tag : Byte) (r : RefusalReason) : (s.refuse p tag r).Ports session voting :=
  h.sent (s.refuse_appends p tag r) (by simp)

/-! ### Evaluation and readiness (R48, R52, R54, R124) -/

theorem removeFront (h : s.Ports session voting) (p : Port) (b : Bank) (tag : Byte) (settled : Bool) :
    (s.removeFront p b tag settled).Ports session voting := by
  refine h.modQueue p fun q => ⟨List.length_eraseP_le, ?_⟩
  cases settled
  · exact .refl _
  · exact List.erase_sublist

theorem releaseTag (h : s.Ports session voting) (p : Port) (tag : Byte) : (s.releaseTag p tag).Ports session voting :=
  h.modQueue p fun _ => ⟨le_rfl, List.erase_sublist⟩

theorem answerFront (h : s.Ports session voting) (p : Port) (e : Entry) (a : Answer) : (s.answerFront p e a).Ports session voting := by
  unfold State.answerFront
  extract_lets v
  have answered : v.Ports session voting := by
    cases a with
    | openHit => exact h.reply p e.tag .openHit
    | closeMoot => exact h.reply p e.tag .closeMoot
    | refused r => exact h.refuse p e.tag r
  exact (answered.removeFront p e.bank e.tag true).same (by simp)

theorem evalRun (h : s.Ports session voting) (p : Port) (b : Bank) (n : Nat) : (State.evalRun p b n s).Ports session voting := by
  induction n generalizing s with
  | zero => exact h
  | succ n ih =>
    unfold State.evalRun
    split
    · exact h
    · split
      · exact h
      · exact .ite (h.sent (s.setContention_appends b) (by simp)) h
      · exact ih (h.answerFront p _ _)

theorem evalFront (h : s.Ports session voting) (p : Port) (b : Bank) : (s.evalFront p b).Ports session voting := h.evalRun p b _

theorem reevaluate (h : s.Ports session voting) (b : Bank) : (s.reevaluate b).Ports session voting :=
  foldl_holds (fun v : State => v.Ports session voting) _ (fun _ p g => g.evalFront p b) allPorts s h

theorem judgeIdle (h : s.Ports session voting) : s.judgeIdle.Ports session voting := by
  obtain ⟨i, rank⟩ := s.judgeIdle_rank
  exact h.same (by simp [rank])

theorem settle (h : s.Ports session voting) : s.settle.Ports session voting := by
  refine h.judgeIdle.shrunk (fun _ => rfl) rfl fun p => ?_
  rw [State.settle, PortQueue.Shrinks, State.reassess_entries, List.length_map]
  refine ⟨le_rfl, ?_⟩
  simp [State.reassess]

theorem wantExit (h : s.Ports session voting) : s.wantExit.Ports session voting := by
  obtain ⟨x, rank, -⟩ := s.wantExit_rank
  exact h.same (by simp [rank])

theorem wantWake (h : s.Ports session voting) : s.wantWake.Ports session voting := by
  obtain ⟨x, rank, -⟩ := s.wantWake_rank
  exact h.same (by simp [rank])

theorem judgeHotExit (h : s.Ports session voting) : s.judgeHotExit.Ports session voting := by
  obtain ⟨x, rank, -⟩ := s.judgeHotExit_rank
  exact h.same (by simp [rank])

/-! ### Revocation and the drain (R17, R75 to R83) -/

theorem revokesOwned (h : s.Ports session voting) (o : Owner) (reason : RevokeReason) (l : List Bank) :
    (l.foldl (State.revokeOwned o reason) s).Ports session voting := by
  refine foldl_holds (fun v : State => v.Ports session voting) _ (fun v b g => .ite ?_ g) l s h
  have revoked : (v.revoke b reason).Ports session voting := g.same (by simp)
  exact revoked.reevaluate b

theorem graceRevoke (h : s.Ports session voting) (reason : RevokeReason) (b : Bank) :
    (s.graceRevoke reason b).Ports session voting := by
  unfold State.graceRevoke
  split
  · exact h
  · exact reevaluate (h.same (by simp)) b
  · exact h

theorem endGrace (h : s.Ports session voting) : s.endGrace.Ports session voting := by
  unfold State.endGrace
  extract_lets v
  have revoked : v.Ports session voting :=
    foldl_holds (fun w : State => w.Ports session voting) _ (fun _ b g => g.graceRevoke s.drain.reason b) allBanks s h
  exact revoked.same (by simp)

theorem setDrain (h : s.Ports session voting) (d : Drain) : (s.setDrain d).Ports session voting := h.same ⟨rfl, rfl, rfl⟩

theorem completeDrain (h : s.Ports session voting) : s.completeDrain.Ports session voting := h.same (by simp)

theorem beginDrain (h : s.Ports session voting) (u : Purpose) (urgent : Bool) : (s.beginDrain u urgent).Ports session voting :=
  .ite (h.setDrain _).endGrace (h.setDrain _).completeDrain

theorem sendDrain (h : s.Ports session voting) (old : State) (u : Purpose) (urgent : Bool) :
    (s.sendDrain old u urgent).Ports session voting :=
  foldl_holds (fun v : State => v.Ports session voting) _ (fun _ p g => g.notice p _) _ s h

theorem addPurpose (h : s.Ports session voting) (u : Purpose) (urgent : Bool) : (s.addPurpose u urgent).Ports session voting := by
  unfold State.addPurpose
  split
  · exact (h.beginDrain u urgent).sendDrain s u urgent
  · exact .ite (h.setDrain _).endGrace (h.setDrain _)
  · exact h.setDrain _
  · exact h.setDrain _

theorem dropPurpose (h : s.Ports session voting) (u : Purpose) : (s.dropPurpose u).Ports session voting := h.setDrain _

/-! ### Unanimity and the thermal state (R102, R103, R128) -/

/-- A judgement of unanimity, with the happening's other effects in between (R76, R128). -/
theorem judgeUnanimity_others (h : s.Ports session voting) {others : State → State}
    (ho : ∀ v : State, v.Ports session voting → (others v).Ports session voting) : (s.judgeUnanimity others).Ports session voting := by
  have begun : (s.setBegun true).Ports session voting := h.same ⟨rfl, rfl, rfl⟩
  have withdrawn : ((s.dropPurpose .sleep).setBegun false).Ports session voting := h.same ⟨rfl, rfl, rfl⟩
  obtain e | ⟨-, -, e⟩ | ⟨-, -, -, e⟩ | ⟨-, -, -, e⟩ := s.judgeUnanimity_cases others <;> rw [e]
  · exact ho s h
  · exact ho _ withdrawn.judgeIdle
  · exact ho _ (begun.addPurpose .sleep false).wantExit.judgeIdle
  · exact (ho _ (begun.beginDrain .sleep false).wantExit.judgeIdle).sendDrain _ _ _

theorem judgeUnanimity (h : s.Ports session voting) : s.judgeUnanimity.Ports session voting := h.judgeUnanimity_others fun _ g => g

theorem judgeRemoval (h : s.Ports session voting) (old : State) : (s.judgeRemoval old).Ports session voting := .ite h h.judgeUnanimity

theorem reportThermal (h : s.Ports session voting) : s.reportThermal.Ports session voting :=
  (ite h.wantWake h).judgeHotExit.judgeUnanimity

theorem thermalChange (h : s.Ports session voting) (t : Thermal) (c : ThermalCause) : (s.thermalChange t c).Ports session voting := by
  rw [State.thermalChange_eq]
  exact h.kept (s.told_epoch (.thermal t)) rfl rfl

theorem evalThermal (h : s.Ports session voting) (c : ThermalCause) {reply : State → State}
    (hr : ∀ v : State, v.Ports session voting → (reply v).Ports session voting) : (s.evalThermal c reply).Ports session voting :=
  .ite (hr s h) (hr _ (h.thermalChange _ c)).reportThermal

theorem takeThot (h : s.Ports session voting) (level : Bool) : (s.takeThot level).Ports session voting :=
  evalThermal (s := { s with refresh := { s.refresh with thot := level } }) (h.same ⟨rfl, rfl, rfl⟩) .thot fun _ g => g

/-! ### The rank's states (R108, R117, R119, R121, R123, R127) -/

theorem told (h : s.Ports session voting) (m : Message) : (s.told m).Ports session voting := h.kept (s.told_epoch m) rfl rfl

theorem become (h : s.Ports session voting) (r : RankState) : (s.become r).Ports session voting := by
  rw [State.become_eq]
  exact (h.told _).same ⟨rfl, rfl, rfl⟩

theorem becomeActive (h : s.Ports session voting) : s.becomeActive.Ports session voting := by
  have active : s.activated.Ports session voting := by
    rw [State.activated_eq]
    exact (h.told _).same ⟨rfl, rfl, rfl⟩
  rw [State.becomeActive_eq]
  exact active.judgeUnanimity

theorem refuseQueues (h : s.Ports session voting) : s.refuseQueues.Ports session voting := by
  have one (p : Port) (v : State) (e : Entry) (g : v.Ports session voting) : (v.refuseStopped p e).Ports session voting :=
    modQueue ((g.refuse p e.tag .rankStopping).same (by simp)) p fun _ => ⟨le_rfl, List.erase_sublist⟩
  have queue (v : State) (p : Port) (g : v.Ports session voting) : (v.refuseQueue p).Ports session voting :=
    (foldl_holds (fun w : State => w.Ports session voting) _ (one p) (v.queues.look p).entries v g).modQueue p
      fun _ => ⟨Nat.zero_le _, .refl _⟩
  exact foldl_holds (fun w : State => w.Ports session voting) _ queue allPorts s h

theorem carryOutStop (h : s.Ports session voting) : s.carryOutStop.Ports session voting := by
  have stopping : s.toStopping.Ports session voting := (h.told (.rankState .stopping)).same ⟨rfl, rfl, rfl⟩
  have stopped : s.stopped.Ports session voting := stopping.refuseQueues.same (by simp only [State.stopped, and_self])
  rw [State.carryOutStop_eq]
  exact stopped.addPurpose .stop false

/-- Every vote becomes AWAKE, and a port without one stays without (R127). -/
theorem votesAwake (h : s.Ports session voting) : s.votesAwake.Ports session voting where
  epoch := h.epoch
  vote p := by
    rw [← h.vote p, State.votesAwake, Table.look_map, Option.isSome_map]
  entries := h.entries
  tags := h.tags

theorem enterOffline (h : s.Ports session voting) (retained : Bool) : (s.enterOffline retained).Ports session voting :=
  become (votesAwake (h.same (by exact ⟨rfl, rfl, rfl⟩))) .offline

theorem shortCalibrationDue (h : s.Ports session voting) : s.shortCalibrationDue.Ports session voting :=
  .ite h (addPurpose (s := { s with calibration := { s.calibration with shortDue := true } }) (h.same ⟨rfl, rfl, rfl⟩) .calibrate false)

/-! ### Requests of a session (R45, R100, R127) -/

/-- A vote of a port that has one (R127). -/
theorem setVote (h : s.Ports session voting) {p : Port} (votes : (s.rank.votes.look p).isSome = true) (v : Vote) :
    (s.setVote p (some v)).Ports session voting where
  epoch := h.epoch
  vote q := by
    rw [← h.vote q, State.setVote, Table.look_put]
    split
    · rename_i here
      rw [← here, votes]
      rfl
    · rfl
  entries := h.entries
  tags := h.tags

/-- An entry accepted: there was room for it, and its tag is new (R44, R45). -/
theorem accept (h : s.Ports session voting) {p : Port} {tag : Byte} (b : Bank) (a : Arrival) (slot : Fin 8)
    (votes : (s.rank.votes.look p).isSome = true) (room : (s.queues.look p).entries.length < 16)
    (new : tag ∉ (s.queues.look p).outstanding) : (s.accept p tag b a slot).Ports session voting := by
  unfold State.accept
  extract_lets front u v w x
  have queued : u.Ports session voting := by
    refine ⟨h.epoch, h.vote, fun q => ?_, fun q => ?_⟩
    · rw [show u.queues.look q = _ from Table.look_modify _ _ _ _]
      split
      · rename_i here
        rw [← here]
        simpa using room
      · exact h.entries q
    · rw [show u.queues.look q = _ from Table.look_modify _ _ _ _]
      split
      · rename_i here
        rw [← here]
        exact (h.tags p).append (List.nodup_singleton tag) (by simpa using new)
      · exact h.tags q
  have counted : w.Ports session voting := queued.same (by simp [w, v])
  have voted : (w.setVote p (some .awake)).Ports session voting := counted.setVote (by simpa [w, v, u] using votes) .awake
  have reported : x.Ports session voting := voted.judgeIdle.judgeUnanimity.wantExit.wantWake
  exact .ite (reported.evalFront p b) reported

/-! ### Data and bursts (R46, R150, R152) -/

theorem finishWrite (h : s.Ports session voting) (b : Burst) : (s.finishWrite b).Ports session voting := by
  unfold State.finishWrite
  extract_lets i v w
  clear_value i
  have quiet : v.Ports session voting := h.same (by simp [v])
  have ended : w.Ports session voting := by
    unfold w
    split
    · exact quiet
    · exact quiet.same (by simp)
  exact .ite ((ended.reply b.port b.tag .written).releaseTag b.port b.tag) ended

theorem finishRead (h : s.Ports session voting) (b : Burst) (data : Block) : (s.finishRead b data).Ports session voting := by
  unfold State.finishRead
  extract_lets found v
  have ended : v.Ports session voting := h.same (by simp [v])
  have placed (i : Fin 4) (x : ReadSpace) : (v.setSpace b.port i x).Ports session voting := ended.same (by simp)
  clear_value found
  split
  · exact ended
  · exact .ite (((placed _ _).reply b.port b.tag _).releaseTag b.port b.tag) (placed _ _)

/-! ### The interval timer (R91 to R93) -/

theorem expireInterval (h : s.Ports session voting) : s.expireInterval.Ports session voting := by
  unfold State.expireInterval
  extract_lets marked u _ v
  have paid : u.Ports session voting := .ite (h.same ⟨rfl, rfl, rfl⟩) (h.same ⟨rfl, rfl, rfl⟩)
  have owed : v.Ports session voting := paid.same ⟨rfl, rfl, rfl⟩
  have asked : (v.askRefresh marked).Ports session voting := by
    unfold State.askRefresh
    extract_lets w wanted x
    have counted : w.Ports session voting := .ite (owed.same ⟨rfl, rfl, rfl⟩) owed
    have added : x.Ports session voting := .ite (counted.addPurpose .refresh marked) counted
    exact .ite added.wantExit added
  exact (asked.judgeRemoval s).settle

/-! ### The end of a lease, a START, and the revocations of a leaving session (R15, R86, R118, R141) -/

theorem expireLease (h : s.Ports session voting) (b : Bank) (l : Lease) : (s.expireLease b l).Ports session voting := by
  unfold State.expireLease
  extract_lets old v
  have taken : v.Ports session voting := h.same (by simp [v])
  exact ((taken.reevaluate b).judgeRemoval old).settle

theorem takeStart (h : s.Ports session voting) : s.takeStart.Ports session voting := by
  unfold State.takeStart
  extract_lets u
  have answered : (s.setStatus .ok).Ports session voting := h.same ⟨rfl, rfl, rfl⟩
  have begun : u.Ports session voting := answered.become _
  exact (begun.refreshed _).settle

/-- The report of a leave changes no session's epoch (R86, R142). -/
theorem reportLeave (h : s.Ports session voting) (o : Owner) : (s.reportLeave o).Ports session voting := by
  unfold State.reportLeave
  split
  · rename_i e tag report leaving
    exact .ite (h.modLink (by rw [leaving]; rfl)) h
  all_goals exact h

theorem askLeave (h : s.Ports session voting) {p : Port} {e : Byte} (current : s.epoch? p = some e) (tag : Byte) :
    (s.askLeave p e tag).Ports session voting := by
  unfold State.askLeave
  extract_lets old v w
  have asked : v.Ports session voting := h.modLink current.symm
  have revoked : w.Ports session voting := asked.revokesOwned ⟨p, e⟩ .portLeft allBanks
  exact ((revoked.reportLeave ⟨p, e⟩).judgeRemoval old).settle

/-! ### The issues of requests and revocation closes (R6 to R8, R19, R68) -/

theorem drive (h : s.Ports session voting) (c : BusCommand) (l : List (HoldId × Nat)) : (s.drive c l).Ports session voting :=
  h.same (by simp)

theorem afterRequest (h : s.Ports session voting) (b : Bank) (changed : Bool) : (s.afterRequest b changed).Ports session voting :=
  (ite (h.reevaluate b) h).judgeUnanimity.settle

/-- What follows the removal of the entry issued (R48, R68, R73). -/
theorem issued (h : s.Ports session voting) (aged : Bool) (p : Port) (b : Bank) (changed : Bool) :
    (((s.evalFront p b).recordRequest aged p).afterRequest b changed).Ports session voting :=
  afterRequest ((h.evalFront p b).same (by simp)) b changed

theorem issueRowOpen (h : s.Ports session voting) (aged : Bool) (p : Port) (e : Entry) (row : Row) :
    (s.issueRowOpen aged p e row).Ports session voting := by
  unfold State.issueRowOpen
  extract_lets d _ v w
  have driven : d.Ports session voting := h.drive _ _
  have opened : w.Ports session voting := driven.same (by simp [w, v])
  exact issued ((opened.removeFront p e.bank e.tag true).reply p e.tag .issued) aged p e.bank true

theorem issueColRead (h : s.Ports session voting) (aged : Bool) (p : Port) (e : Entry) (column : Column) (autoClose : Bool) :
    (s.issueColRead aged p e column autoClose).Ports session voting := by
  unfold State.issueColRead
  extract_lets d v w x
  have driven : d.Ports session voting := h.drive _ _
  have closed : w.Ports session voting := driven.same (by simp [w, v])
  exact issued ((closed.removeFront p e.bank e.tag false).same (by simp)) aged p e.bank autoClose

theorem issueColWrite (h : s.Ports session voting) (aged : Bool) (p : Port) (e : Entry) (column : Column) (autoClose : Bool)
    (slot : Fin 8) : (s.issueColWrite aged p e column autoClose slot).Ports session voting := by
  unfold State.issueColWrite
  extract_lets d v w x y
  have driven : d.Ports session voting := h.drive _ _
  have closed : w.Ports session voting := driven.same (by simp [w, v])
  exact issued (s := x) ((closed.removeFront p e.bank e.tag false).same (by simp [x])) aged p e.bank autoClose

theorem issueRowClose (h : s.Ports session voting) (aged : Bool) (p : Port) (e : Entry) :
    (s.issueRowClose aged p e).Ports session voting := by
  unfold State.issueRowClose
  extract_lets d v w
  have driven : d.Ports session voting := h.drive _ _
  have closed : v.Ports session voting := driven.same (by simp [v, State.closeBank])
  exact issued ((closed.removeFront p e.bank e.tag true).reply p e.tag .issued) aged p e.bank true

theorem issueRevocation (h : s.Ports session voting) (b : Bank) (r : Revocation) : (s.issueRevocation b r).Ports session voting := by
  unfold State.issueRevocation
  extract_lets old d v w x
  have driven : d.Ports session voting := h.drive _ _
  have told : v.Ports session voting := .ite (driven.notice _ _) driven
  have closed : w.Ports session voting := told.same (by simp [w])
  have reported : x.Ports session voting := (closed.reportLeave r.owner).same (by simp [x])
  exact ((reported.reevaluate b).judgeRemoval old).settle

/-! ### The issues of rank operations (R69, R95, R99, R107, R110, R119, R125, R126, R130, R131) -/

theorem setRank (h : s.Ports session voting) (r : RankState) : (s.setRank r).Ports session voting := h.same ⟨rfl, rfl, rfl⟩

theorem recordOperation (h : s.Ports session voting) : s.recordOperation.Ports session voting := h.same ⟨rfl, rfl, rfl⟩

theorem notBusy (h : s.Ports session voting) : s.notBusy.Ports session voting := h.same ⟨rfl, rfl, rfl⟩

/-- The refresh count, and the calibration it makes due (R99). -/
theorem countRefresh (h : s.Ports session voting) : s.countRefresh.Ports session voting := by
  unfold State.countRefresh
  split
  · exact (h.refreshed _).shortCalibrationDue
  · exact h.refreshed _

theorem refreshDone (h : s.Ports session voting) (pullIn : Bool) : (s.refreshDone pullIn).Ports session voting := by
  have paid : (s.refreshPaid pullIn).Ports session voting := h.same ⟨rfl, rfl, rfl⟩
  rw [State.refreshDone_eq]
  exact .ite (paid.countRefresh.dropPurpose .refresh) paid.countRefresh

theorem issueRefresh (h : s.Ports session voting) (pullIn : Bool) : (s.issueRefresh pullIn).Ports session voting := by
  have driven : (s.drive .refresh (refreshRaises s.prof)).Ports session voting := h.drive _ _
  exact (driven.refreshDone pullIn).recordOperation.settle

theorem issueShortCalibration (h : s.Ports session voting) : s.issueShortCalibration.Ports session voting := by
  unfold State.issueShortCalibration
  extract_lets d _ v
  have driven : d.Ports session voting := h.drive _ _
  have busy : v.Ports session voting := driven.same ⟨rfl, rfl, rfl⟩
  exact (busy.dropPurpose .calibrate).recordOperation.settle

theorem issueLongCalibration (h : s.Ports session voting) : s.issueLongCalibration.Ports session voting := by
  unfold State.issueLongCalibration
  extract_lets d _ v w
  have driven : d.Ports session voting := h.drive _ _
  have busy : v.Ports session voting := driven.same ⟨rfl, rfl, rfl⟩
  have phase : w.Ports session voting := by
    unfold w
    split
    · exact busy.setRank _
    · exact busy
  exact phase.recordOperation.settle

theorem issueModeSet (h : s.Ports session voting) (m : ModeWord) : (s.issueModeSet m).Ports session voting := by
  unfold State.issueModeSet
  extract_lets d v
  have driven : d.Ports session voting := h.drive _ _
  have phase : v.Ports session voting := by
    unfold v
    split
    · exact driven.setRank _
    · exact driven
  exact phase.recordOperation.settle

theorem issuePowerDownEntry (h : s.Ports session voting) : s.issuePowerDownEntry.Ports session voting := by
  unfold State.issuePowerDownEntry
  extract_lets d u _ v
  have entered : u.Ports session voting := (h.drive _ _).become _
  have stopped : v.Ports session voting := entered.withIdle .stopped
  exact stopped.recordOperation.judgeUnanimity.settle

theorem issuePowerDownExit (h : s.Ports session voting) : s.issuePowerDownExit.Ports session voting := by
  unfold State.issuePowerDownExit
  extract_lets d v
  have driven : d.Ports session voting := h.drive _ _
  have moved : v.Ports session voting := .ite driven.carryOutStop (driven.become .active).judgeUnanimity
  exact moved.recordOperation.settle

theorem issueSelfRefreshEntry (h : s.Ports session voting) : s.issueSelfRefreshEntry.Ports session voting := by
  unfold State.issueSelfRefreshEntry
  extract_lets d served u v x _ y
  have left : u.Ports session voting := ((h.drive _ _).dropPurpose .sleep).dropPurpose .stop
  have ended : v.Ports session voting := .ite (left.same ⟨rfl, rfl, rfl⟩) left
  have asleep : x.Ports session voting := ended.become (.sleep false)
  have moved : y.Ports session voting := .ite (ended.enterOffline true) (asleep.refreshed _).judgeUnanimity
  exact moved.recordOperation.settle

theorem exitRank (h : s.Ports session voting) : s.exitRank.Ports session voting := by
  unfold State.exitRank
  split
  · exact h.become _
  · exact h.same ⟨rfl, rfl, rfl⟩
  · exact h

theorem issueSelfRefreshExit (h : s.Ports session voting) : s.issueSelfRefreshExit.Ports session voting := by
  have awake := (h.drive .selfRefreshExit (busRaises s.prof.tSRX)).exitRank.votesAwake
  have reported : ((s.drive .selfRefreshExit (busRaises s.prof.tSRX)).exitRank.votesAwake.exitReports).Ports session voting := by
    unfold State.exitReports
    extract_lets _ u v
    have locked : u.Ports session voting := awake.same ⟨rfl, rfl, rfl⟩
    exact locked.shortCalibrationDue.same ⟨rfl, rfl, rfl⟩
  exact reported.recordOperation.settle

end

end State.Ports

/-! ### The two invariants together -/

/-- The invariants of the sessions and of the Admission Queues. -/
structure State.PortsSound (s : State) : Prop where
  session : s.SessionInv
  queue : s.QueueInv

/-- An answer to a state whose ports meet their invariants. -/
def Ported (o : Host.Outcome State Fault Refusal) : Prop := ∀ t, o = .next t → t.PortsSound

/-- An epoch that JOIN gives is from 1 to 255 (R139). -/
theorem nextEpoch_ne_zero (e : Byte) : nextEpoch e ≠ 0 := by
  unfold nextEpoch
  split
  · decide
  · bv_omega

/-- What the first arrival checks leave: room for the entry, and a tag that is new (R44, Table 3-2). -/
theorem State.arrivalCheck_ok {s : State} {p : Port} {tag bank : Byte} {a : Arrival} {x : Bank × Fin 8}
    (passes : s.arrivalCheck p tag bank a = .ok x) :
    (s.queues.look p).entries.length < 16 ∧ tag ∉ (s.queues.look p).outstanding := by
  unfold State.arrivalCheck at passes
  repeat' split at passes
  all_goals first | exact ⟨by omega, by assumption⟩ | cases passes

/-- With no session the session checks pass JOIN alone (R137). -/
theorem State.current_of_sessionCheck {s : State} {p : Port} {h : Header} (passes : s.sessionCheck p h false = none) :
    s.current p = true := by
  rw [State.current, State.epoch?]
  unfold State.sessionCheck at passes
  split at passes
  · exact nomatch passes
  · rename_i e session
    rw [session]
    rfl

namespace State.Ports

variable {s : State} {session : Port → Option Byte} {voting : Port → Bool}

/-- Ports of which each votes exactly under a session, with epochs from 1 to 255, meet the invariants. -/
theorem sound (h : s.Ports session voting) (proper : ∀ p, session p ≠ some 0 ∧ voting p = (session p).isSome) : s.PortsSound where
  session p := by
    obtain ⟨nonzero, votes⟩ := proper p
    rw [State.current, h.epoch, h.vote]
    exact ⟨nonzero, votes⟩
  queue p := ⟨h.entries p, h.tags p⟩

/-- The discards of a session's end: the port is left without a session, and its queue is empty (R43, R134, R143). -/
theorem discarded (h : s.Ports session voting) (p : Port) (e : Byte) (c : SessionEnd) :
    (s.discarded p e c).Ports (fun q => if p = q then none else session q) voting := by
  have queue (q : Port) : (s.discarded p e c).queues.look q = if p = q then ⟨[], []⟩ else s.queues.look q := by
    simp only [State.discarded, State.forget, State.discardQueue, State.modMover, State.modQueue, Table.look_modify]
    rfl
  refine ⟨fun q => ?_, fun q => h.vote q, fun q => ?_, fun q => ?_⟩
  · rw [← h.epoch q]
    simp only [State.epoch?, State.discarded, State.forget, State.discardQueue, State.discardOutbound, State.modMover, State.modQueue,
      State.modLink, Table.look_modify]
    split
    · cases c <;> rfl
    · rfl
  · rw [queue]
    split
    · exact Nat.zero_le _
    · exact h.entries q
  · rw [queue]
    split
    · exact List.nodup_nil
    · exact h.tags q

/-- The end of a session leaves the port without a session and without a vote (R127, R143). -/
theorem endSession (h : s.Ports session voting) (p : Port) (e : Byte) (c : SessionEnd) :
    (s.endSession p e c).Ports (fun q => if p = q then none else session q) (fun q => if p = q then false else voting q) := by
  have revoked := (h.discarded p e c).revokesOwned ⟨p, e⟩ c.reason allBanks
  have recorded : ((allBanks.foldl (State.revokeOwned ⟨p, e⟩ c.reason) (s.discarded p e c)).recordEnd p e c).Ports
      (fun q => if p = q then none else session q) voting := by
    refine revoked.same ?_
    unfold State.recordEnd
    split <;> simp
  have silent : (s.revokedAll p e c).Ports (fun q => if p = q then none else session q) (fun q => if p = q then false else voting q) := by
    refine ⟨recorded.epoch, fun q => ?_, recorded.entries, recorded.tags⟩
    rw [State.revokedAll, State.setVote, Table.look_put]
    split
    · rfl
    · exact recorded.vote q
  rw [State.endSession_eq]
  refine silent.judgeUnanimity_others fun v g => ?_
  have forgotten : (v.forgetTemperature p).Ports _ _ := g.same ⟨rfl, rfl, rfl⟩
  exact forgotten.evalThermal (.sessionEnd p) fun _ k => k

/-- A JOIN gives the port a session under the next epoch, and a vote (R127, R139). -/
theorem openSession (h : s.Ports session voting) (p : Port) (tag : Byte) :
    (s.openSession p tag).Ports (fun q => if p = q then some (nextEpoch s.epochCounter) else session q)
      (fun q => if p = q then true else voting q) := by
  have opened : (s.joined p tag).Ports (fun q => if p = q then some (nextEpoch s.epochCounter) else session q)
      (fun q => if p = q then true else voting q) := by
    refine ⟨fun q => ?_, fun q => ?_, h.entries, h.tags⟩
    · rw [State.epoch?, State.joined, Table.look_put]
      split
      · rfl
      · exact h.epoch q
    · rw [State.joined, Table.look_put]
      split
      · rfl
      · exact h.vote q
  rw [State.openSession_eq]
  exact opened.judgeUnanimity.wantWake

end State.Ports

namespace State.PortsSound

variable {s t : State}

theorem ports (h : s.PortsSound) : s.Ports s.epoch? s.current :=
  ⟨fun _ => rfl, fun p => (h.session p).2, fun p => (h.queue p).1, fun p => (h.queue p).2⟩

theorem proper (h : s.PortsSound) (p : Port) : s.epoch? p ≠ some 0 ∧ s.current p = (s.epoch? p).isSome := ⟨(h.session p).1, rfl⟩

theorem votes (h : s.PortsSound) {p : Port} (current : s.current p = true) : (s.rank.votes.look p).isSome = true :=
  (h.session p).2.trans current

/-- A happening that changes no session and adds to no queue. -/
theorem by_ports (h : s.PortsSound) (keeps : ∀ {session voting}, s.Ports session voting → t.Ports session voting) : t.PortsSound :=
  (keeps h.ports).sound h.proper

theorem next (h : t.PortsSound) : Ported (.next t) := by
  rintro _ ⟨⟩
  exact h

/-- A happening that takes place only when it is due (assumption 2). -/
theorem due (h : s.PortsSound) {P : Prop} [Decidable P] (ht : P → t.PortsSound) : Ported (if P then .next t else .next s) := by
  split
  · exact (ht ‹_›).next
  · exact h.next

theorem settle (h : s.PortsSound) : s.settle.PortsSound := h.by_ports fun g => g.settle

/-- The end of a session (R143). -/
theorem endSession (h : s.PortsSound) (p : Port) (e : Byte) (c : SessionEnd) : (s.endSession p e c).PortsSound := by
  refine (h.ports.endSession p e c).sound fun q => ?_
  split
  · exact ⟨nofun, rfl⟩
  · exact h.proper q

/-- A session opened (R139). -/
theorem openSession (h : s.PortsSound) (p : Port) (tag : Byte) : (s.openSession p tag).PortsSound := by
  refine (h.ports.openSession p tag).sound fun q => ?_
  split
  · exact ⟨fun same => nextEpoch_ne_zero _ (Option.some.inj same), rfl⟩
  · exact h.proper q

/-! ### Inbound frames (R135 to R137) -/

theorem outOfSequence (h : s.PortsSound) (p : Port) : (s.outOfSequence p).PortsSound :=
  h.by_ports fun g => g.kept (s.outOfSequence_epoch p) (by simp) (by simp)

/-- A sound frame: discarded, refused, or taken by its block, of a current session unless it is a JOIN (R136, R137). -/
theorem receive (h : s.PortsSound) (p : Port) (hd : Header) {isJoin : Bool} {route : State → State}
    (hr : ∀ v : State, v.PortsSound → (isJoin = false → v.current p = true) → (route v).PortsSound) :
    (s.receive p hd isJoin route).PortsSound := by
  have counted : (s.inSequence p).PortsSound := h.by_ports fun g => g.modLink rfl
  unfold State.receive
  split
  · exact h
  · split
    · exact h.outOfSequence p
    · dsimp only
      split
      · exact counted.by_ports fun g => g.refuse p hd.tag _
      · rename_i passes
        refine hr _ counted fun other => ?_
        subst other
        exact State.current_of_sessionCheck passes

theorem queued (h : s.PortsSound) (p : Port) (hd : Header) (bank : Byte) (a : Arrival) : (s.queued p hd bank a).PortsSound := by
  refine h.receive p hd fun v g current => settle ?_
  unfold State.arrive
  split
  · exact g.by_ports fun k => k.refuse p hd.tag _
  · rename_i b slot passes
    obtain ⟨room, new⟩ := State.arrivalCheck_ok passes
    exact g.by_ports fun k => k.accept b a slot (g.votes (current rfl)) room new

theorem takeJoin (h : s.PortsSound) (p : Port) (tag revision : Byte) : (s.takeJoin p tag revision).PortsSound := by
  unfold State.takeJoin
  split
  · exact h.by_ports fun g => g.reply p tag _
  · split
    · exact (h.openSession p tag).settle
    · exact ((h.endSession p _ .rejoin).openSession p tag).settle

theorem takeLeave (h : s.PortsSound) (p : Port) (tag : Byte) : (s.takeLeave p tag).PortsSound := by
  have parts : (s.takeLeave p tag).rank.votes = s.rank.votes ∧ (s.takeLeave p tag).queues = s.queues := by
    unfold State.takeLeave
    split <;> simp
  exact h.by_ports fun g => g.kept (s.takeLeave_epoch p tag) parts.1 parts.2

theorem takeExtend (h : s.PortsSound) (p : Port) (tag bank : Byte) : (s.takeExtend p tag bank).PortsSound := by
  unfold State.takeExtend
  split
  · exact h.by_ports fun g => g.reply p tag _
  · rename_i b l _
    have extended : (s.modBank b fun e => { e with state := .opened (s.extended l) }).PortsSound := h.by_ports fun g => g.same (by simp)
    exact extended.by_ports fun g => g.reply p tag _

theorem takeCancel (h : s.PortsSound) (p : Port) (tag target : Byte) : (s.takeCancel p tag target).PortsSound := by
  unfold State.takeCancel
  split
  · exact h.by_ports fun g => g.reply p tag _
  · rename_i e _
    refine h.by_ports fun {session voting} g => ?_
    have removed : (s.removeTag p target).Ports session voting := g.modQueue p fun _ => ⟨List.length_eraseP_le, List.erase_sublist⟩
    have told : (((s.removeTag p target).reply p target .cancelled).freeEntrySlot p e).Ports session voting :=
      (removed.reply p target .cancelled).same (by simp)
    exact (State.Ports.ite (told.evalFront p e.bank) told).judgeUnanimity.settle

theorem takeSleepVote (h : s.PortsSound) {p : Port} (current : s.current p = true) (tag : Byte) : (s.takeSleepVote p tag).PortsSound :=
  h.by_ports fun g =>
    have voted := ((g.setVote (h.votes current) .voted).reply p tag .voteNoted).judgeHotExit
    (State.Ports.ite voted.judgeUnanimity voted).settle

theorem takeWake (h : s.PortsSound) {p : Port} (current : s.current p = true) (tag : Byte) : (s.takeWake p tag).PortsSound :=
  h.by_ports fun g =>
    have awake := (g.setVote (h.votes current) .awake).reply p tag .wakeNoted
    (State.Ports.ite awake.judgeHotExit.judgeUnanimity awake).wantWake.settle

theorem takeReport (h : s.PortsSound) (p : Port) (tag : Byte) (t : BitVec 16) : (s.takeReport p tag t).PortsSound := by
  refine h.by_ports fun {session voting} g => ?_
  have recorded : State.Ports { s with refresh := { s.refresh with table := s.refresh.table.put p (some (clampTemperature t)) } }
      session voting := g.same ⟨rfl, rfl, rfl⟩
  exact (recorded.evalThermal (.report p) fun _ k => k.reply p tag _).settle

/-! ### Resets (R42, R115, R133, R170) -/

/-- After a reset no port has a session, a vote or an entry. -/
theorem of_reset (epoch : ∀ p, s.epoch? p = none) (votes : s.rank.votes = Table.fill 4 none)
    (queues : s.queues = Table.fill 4 .reset) : s.PortsSound := by
  have ports : s.Ports (fun _ => none) (fun _ => false) :=
    ⟨epoch, fun p => by simp [votes], fun p => by simp [queues, PortQueue.reset], fun p => by simp [queues, PortQueue.reset]⟩
  exact ports.sound fun _ => ⟨nofun, rfl⟩

theorem powerOn (s : State) (lanes : Table Bool 4) : (s.powerOn lanes).PortsSound := of_reset (s.powerOn_epoch lanes) rfl rfl

theorem cleared (s : State) : s.cleared.PortsSound := of_reset s.cleared_epoch rfl rfl

theorem execPowerOnReset (lanes : Table Bool 4) (thot : Bool) (s : State) : Ported (execPowerOnReset lanes thot s) := by
  have fresh := powerOn s lanes
  unfold Machine.execPowerOnReset
  split
  · exact (fresh.by_ports fun g => g.takeThot true).next
  · exact fresh.next

theorem execSoftReset (s : State) : Ported (execSoftReset s) := by
  have fresh := cleared s
  unfold Machine.execSoftReset
  split
  · exact (fresh.by_ports fun g => g.takeThot true).next
  · exact fresh.next

/-! ### Links and sessions (R134, R141, R142, R145) -/

theorem execLinkUp (h : s.PortsSound) (p : Port) : Ported (execLinkUp p s) :=
  h.due fun down => h.by_ports fun g => g.modLink (by rw [down]; rfl)

theorem execLinkDown (h : s.PortsSound) (p : Port) : Ported (execLinkDown p s) := by
  unfold Machine.execLinkDown
  split
  · exact h.next
  · rename_i linked
    have emptied : (s.modLink p fun l => { l with outbound := [] }).PortsSound := h.by_ports fun g => g.modLink rfl
    have discarded : (s.discardOutbound p).PortsSound := emptied.by_ports fun g => g.same ⟨rfl, rfl, rfl⟩
    have session : ((s.discardOutbound p).links.look p).session = .linked := by
      simp [State.discardOutbound, State.modLink, linked]
    exact (discarded.by_ports fun g => g.modLink (by rw [session]; rfl)).settle.next
  · exact (h.endSession p _ .lost).settle.next
  · exact (h.endSession p _ .lost).settle.next

theorem execHandedToLink (h : s.PortsSound) (p : Port) : Ported (execHandedToLink p s) := by
  unfold Machine.execHandedToLink
  split
  · rename_i f _ _ _
    have handed : (s.handHead p f).PortsSound := by
      unfold State.handHead
      extract_lets v
      have taken : v.PortsSound := h.by_ports fun g => g.modLink rfl
      split
      · exact taken
      · exact taken.by_ports fun g => g.same (by simp)
    exact handed.settle.next
  all_goals exact h.next

theorem execReadyToLeave (h : s.PortsSound) (p : Port) : Ported (execReadyToLeave p s) := by
  unfold Machine.execReadyToLeave
  split
  · rename_i e tag ready
    have current : s.epoch? p = some e := by
      rw [State.epoch?]
      unfold State.leaveReady at ready
      split at ready
      · rename_i session
        split at ready
        · cases ready
          rw [session]
          rfl
        · cases ready
      all_goals cases ready
    exact (h.by_ports fun g => g.askLeave current tag).next
  · exact h.next

theorem execLeaveComplete (h : s.PortsSound) (p : Port) : Ported (execLeaveComplete p s) := by
  unfold Machine.execLeaveComplete
  split
  · rename_i e _ _
    exact ((h.endSession p e .left).by_ports fun g => (g.send p _).settle).next
  · exact h.next

theorem execBadKindFrame (h : s.PortsSound) (p : Port) (hd : Header) (kind : Byte) (length : Nat) :
    Ported (execBadKindFrame p hd kind length s) := by
  unfold Machine.execBadKindFrame
  split
  · exact h.next
  · exact (h.receive p hd fun _ g _ => g.by_ports fun k => k.refuse p hd.tag .badKind).next

/-! ### Leases, aging and bursts (R10, R15, R33, R56, R150, R152) -/

theorem execLeaseWarning (h : s.PortsSound) (b : Bank) : Ported (execLeaseWarning b s) := by
  unfold Machine.execLeaseWarning
  split
  · exact h.due fun _ => h.by_ports fun g => (g.notice _ _).same ⟨rfl, rfl, rfl⟩
  all_goals exact h.next

theorem execLeaseExpiry (h : s.PortsSound) (b : Bank) : Ported (execLeaseExpiry b s) := by
  unfold Machine.execLeaseExpiry
  split
  · exact h.due fun _ => h.by_ports fun g => g.expireLease b _
  all_goals exact h.next

theorem execEntryAged (h : s.PortsSound) (p : Port) (tag : Byte) : Ported (execEntryAged p tag s) := by
  unfold Machine.execEntryAged
  split
  · exact h.next
  · exact h.due fun _ => h.by_ports fun g => g.modQueue p fun q => ⟨(ageTag_length tag q.entries).le, .refl _⟩

theorem execWriteBurstStart (h : s.PortsSound) : Ported (execWriteBurstStart s) := by
  unfold Machine.execWriteBurstStart
  split
  · exact h.next
  · exact h.due fun _ => h.by_ports fun g => g.same ⟨rfl, rfl, rfl⟩

theorem execReadBurstStart (h : s.PortsSound) : Ported (execReadBurstStart s) := by
  unfold Machine.execReadBurstStart
  split
  · exact h.next
  · exact h.due fun _ => h.by_ports fun g => g.same ⟨rfl, rfl, rfl⟩

theorem execWriteDataEnd (h : s.PortsSound) : Ported (execWriteDataEnd s) := by
  unfold Machine.execWriteDataEnd
  split
  · exact h.next
  · exact h.due fun _ => h.by_ports fun g => (g.finishWrite _).settle

theorem execReadDataArrival (h : s.PortsSound) (data : Block) : Ported (execReadDataArrival data s) := by
  unfold Machine.execReadDataArrival
  split
  · exact h.next
  · exact h.due fun _ => h.by_ports fun g => (g.finishRead _ data).settle

/-! ### The issues (R6 to R8, R19, R68, R69) -/

theorem execRowOpenIssued (h : s.PortsSound) : Ported (execRowOpenIssued s) := by
  unfold Machine.execRowOpenIssued
  split
  · exact h.next
  · split
    · exact (h.by_ports fun g => g.issueRowOpen _ _ _ _).next
    all_goals exact h.next

theorem execColReadIssued (h : s.PortsSound) : Ported (execColReadIssued s) := by
  unfold Machine.execColReadIssued
  split
  · exact h.next
  · split
    · exact (h.by_ports fun g => g.issueColRead _ _ _ _ _).next
    all_goals exact h.next

theorem execColWriteIssued (h : s.PortsSound) : Ported (execColWriteIssued s) := by
  unfold Machine.execColWriteIssued
  split
  · exact h.next
  · split
    · exact (h.by_ports fun g => g.issueColWrite _ _ _ _ _ _).next
    all_goals exact h.next

theorem execRowCloseIssued (h : s.PortsSound) : Ported (execRowCloseIssued s) := by
  unfold Machine.execRowCloseIssued
  split
  · exact h.next
  · split
    · exact (h.by_ports fun g => g.issueRowClose _ _ _).next
    all_goals exact h.next

theorem execRevocationCloseIssued (h : s.PortsSound) : Ported (execRevocationCloseIssued s) := by
  unfold Machine.execRevocationCloseIssued
  split
  · exact h.next
  · split
    · exact (h.by_ports fun g => g.issueRevocation _ _).next
    all_goals exact h.next

theorem execRefreshIssued (h : s.PortsSound) : Ported (execRefreshIssued s) := by
  unfold Machine.execRefreshIssued
  split
  · exact (h.by_ports fun g => g.issueRefresh _).next
  all_goals exact h.next

theorem execModeSetIssued (h : s.PortsSound) : Ported (execModeSetIssued s) := by
  unfold Machine.execModeSetIssued
  split
  · exact (h.by_ports fun g => g.issueModeSet _).next
  all_goals exact h.next

/-! ### The rank's own times and the management port (R107, R118 to R126, R131, R162) -/

/-- A phase of the rank that follows another (R119, R120, R126). -/
theorem setRank (h : s.PortsSound) (r : RankState) : (s.setRank r).PortsSound := h.by_ports fun g => g.same ⟨rfl, rfl, rfl⟩

theorem execResetHoldEnd (h : s.PortsSound) : Ported (execResetHoldEnd s) := by
  unfold Machine.execResetHoldEnd
  split
  · exact h.due fun _ => h.setRank _
  · exact h.next

theorem execClockSettleEnd (h : s.PortsSound) : Ported (execClockSettleEnd s) := by
  unfold Machine.execClockSettleEnd
  split
  · exact h.due fun _ => h.setRank _
  · exact h.next

theorem execExitWaitEnd (h : s.PortsSound) : Ported (execExitWaitEnd s) := by
  unfold Machine.execExitWaitEnd
  split
  · exact h.due fun _ => h.setRank _
  · exact h.next

theorem execResidencyEnd (h : s.PortsSound) : Ported (execResidencyEnd s) := by
  unfold Machine.execResidencyEnd
  split
  · exact h.due fun _ => h.setRank _
  · exact h.next

theorem setStatus (h : s.PortsSound) (c : CommandStatus) : (s.setStatus c).PortsSound := h.by_ports fun g => g.same ⟨rfl, rfl, rfl⟩

theorem execStart (h : s.PortsSound) : Ported (execStart s) := by
  unfold Machine.execStart
  repeat' split
  · exact (h.setStatus .notOffline).next
  · exact (h.setStatus .noProfile).next
  · exact (h.by_ports fun g => g.takeStart).next

theorem execStop (h : s.PortsSound) : Ported (execStop s) := by
  have ok := h.setStatus .ok
  have refused := (h.setStatus .notRunning).next
  have pending : State.PortsSound { s.setStatus .ok with rank := { (s.setStatus .ok).rank with stopPending := true } } :=
    ok.by_ports fun g => g.same ⟨rfl, rfl, rfl⟩
  unfold Machine.execStop
  split
  · exact refused
  · split
    · exact (ok.by_ports fun g => g.carryOutStop.settle).next
    · exact (pending.by_ports fun g => g.wantExit.judgeUnanimity.settle).next
    · exact (ok.by_ports fun g => (g.refuseQueues.enterOffline true).settle).next
    · exact pending.settle.next
    · exact (ok.by_ports fun g => (g.refuseQueues.enterOffline _).settle).next
    · exact refused
    · exact refused

theorem execCommit (h : s.PortsSound) : Ported (execCommit s) := by
  unfold Machine.execCommit
  repeat' split
  all_goals exact next (h.by_ports fun g => g.same ⟨rfl, rfl, rfl⟩)

theorem execFaultPop (h : s.PortsSound) : Ported (execFaultPop s) := by
  unfold Machine.execFaultPop
  split <;> exact next (h.by_ports fun g => g.same ⟨rfl, rfl, rfl⟩)

theorem captured (h : s.PortsSound) (address : BitVec 16) : (s.captured address).PortsSound := by
  unfold State.captured
  split
  · exact h.by_ports fun g => g.same ⟨rfl, rfl, rfl⟩
  · exact h

/-! ### Every command -/

theorem exec (h : s.PortsSound) (c : Instr) : Ported (exec c s) := by
  cases c with
  | powerOnReset lanes thot => exact execPowerOnReset lanes thot s
  | softReset => exact execSoftReset s
  | linkUp p => exact h.execLinkUp p
  | linkDown p => exact h.execLinkDown p
  | thotAsserted => exact (h.by_ports fun g => (g.takeThot true).settle).next
  | thotDeasserted => exact (h.by_ports fun g => (g.takeThot false).settle).next
  | frameCrcDiscard p bytes => exact h.due fun _ => h.by_ports fun g => g.same (by simp)
  | frameOutOfSequence p seq => exact h.due fun _ => h.outOfSequence p
  | join p hd revision => exact (h.receive p hd fun _ g _ => g.takeJoin p hd.tag revision).next
  | leave p hd => exact (h.receive p hd fun _ g _ => g.takeLeave p hd.tag).next
  | leaseExtend p hd bank => exact (h.receive p hd fun _ g _ => g.takeExtend p hd.tag bank).next
  | cancel p hd target => exact (h.receive p hd fun _ g _ => g.takeCancel p hd.tag target).next
  | sleepVote p hd => exact (h.receive p hd fun _ g current => g.takeSleepVote (current rfl) hd.tag).next
  | wake p hd => exact (h.receive p hd fun _ g current => g.takeWake (current rfl) hd.tag).next
  | tempReport p hd t => exact (h.receive p hd fun _ g _ => g.takeReport p hd.tag t).next
  | rowOpen p hd bank row => exact (h.queued p hd bank _).next
  | colRead p hd bank row column flags => exact (h.queued p hd bank _).next
  | colWrite p hd bank row column flags data => exact (h.queued p hd bank _).next
  | rowClose p hd bank => exact (h.queued p hd bank _).next
  | handedToLink p => exact h.execHandedToLink p
  | readyToLeave p => exact h.execReadyToLeave p
  | leaveComplete p => exact h.execLeaveComplete p
  | holdMet id => exact h.due fun _ => settle (h.by_ports fun g => g.same (by simp))
  | windowEntryLeaves => exact h.due fun _ => settle (h.by_ports fun g => g.same ⟨rfl, rfl, rfl⟩)
  | leaseWarning b => exact h.execLeaseWarning b
  | leaseExpiry b => exact h.execLeaseExpiry b
  | graceEnd => exact h.due fun _ => h.by_ports fun g => (g.endGrace.judgeRemoval s).settle
  | intervalTimerExpiry => exact h.due fun _ => h.by_ports fun g => g.expireInterval
  | entryAged p tag => exact h.execEntryAged p tag
  | writeBurstStart => exact h.execWriteBurstStart
  | readBurstStart => exact h.execReadBurstStart
  | writeDataEnd => exact h.execWriteDataEnd
  | readDataArrival data => exact h.execReadDataArrival data
  | rowOpenIssued => exact h.execRowOpenIssued
  | colReadIssued => exact h.execColReadIssued
  | colWriteIssued => exact h.execColWriteIssued
  | rowCloseIssued => exact h.execRowCloseIssued
  | revocationCloseIssued => exact h.execRevocationCloseIssued
  | refreshIssued => exact h.execRefreshIssued
  | shortCalibrationIssued => exact h.due fun _ => h.by_ports fun g => g.issueShortCalibration
  | longCalibrationIssued => exact h.due fun _ => h.by_ports fun g => g.issueLongCalibration
  | modeSetIssued => exact h.execModeSetIssued
  | powerDownEntryIssued => exact h.due fun _ => h.by_ports fun g => g.issuePowerDownEntry
  | powerDownExitIssued => exact h.due fun _ => h.by_ports fun g => g.issuePowerDownExit
  | selfRefreshEntryIssued => exact h.due fun _ => h.by_ports fun g => g.issueSelfRefreshEntry
  | selfRefreshExitIssued => exact h.due fun _ => h.by_ports fun g => g.issueSelfRefreshExit
  | longCalBusyEnd =>
    exact h.due fun _ => h.by_ports fun g => State.Ports.ite g.notBusy.becomeActive.settle g.notBusy.settle
  | shortCalBusyEnd => exact h.due fun _ => h.by_ports fun g => g.notBusy.settle
  | lockEnd => exact h.due fun _ => settle (h.by_ports fun g => g.same ⟨rfl, rfl, rfl⟩)
  | resetHoldEnd => exact h.execResetHoldEnd
  | clockSettleEnd => exact h.execClockSettleEnd
  | exitWaitEnd => exact h.execExitWaitEnd
  | modeLoadEnd => exact h.due fun _ => h.by_ports fun g => g.becomeActive.settle
  | idleTimerExpiry => exact h.due fun _ => h.by_ports fun g => g.same ⟨rfl, rfl, rfl⟩
  | residencyEnd => exact h.execResidencyEnd
  | wakeEnd => exact h.due fun _ => h.by_ports fun g => (State.Ports.ite g.becomeActive.carryOutStop g.becomeActive).settle
  | start => exact h.execStart
  | stop => exact h.execStop
  | commit => exact h.execCommit
  | faultPop => exact h.execFaultPop
  | mgmtErrorClear value => exact h.due fun _ => h.by_ports fun g => g.same ⟨rfl, rfl, rfl⟩
  | alertMaskWrite value => exact next (h.by_ports fun g => g.same ⟨rfl, rfl, rfl⟩)
  | stagedProfileWrite field byte value => exact next (h.by_ports fun g => g.same ⟨rfl, rfl, rfl⟩)
  | mgmtWriteBad address value => exact h.due fun _ => h.by_ports fun g => g.same ⟨rfl, rfl, rfl⟩
  | registerCapture address => exact (h.captured address).next
  | badKindFrame p hd kind length => exact h.execBadKindFrame p hd kind length

/-- A step on a command, a step of the block's own and a ck that passes (R1, assumption 7). -/
theorem step (h : s.PortsSound) : Ported (step s) := by
  unfold Machine.step
  split
  · rename_i c rest _
    exact exec (s := { s with pending := rest }) (h.by_ports fun g => g.same ⟨rfl, rfl, rfl⟩) c
  · unfold idleStep
    split
    · exact exec (s := s.drawn) (h.by_ports fun g => g.same ⟨rfl, rfl, rfl⟩) _
    · exact next (h.by_ports fun g => g.same ⟨rfl, rfl, rfl⟩)

end State.PortsSound

end Sys2Proof.Machine

namespace Sys2Proof.Proofs

open Sys2Proof Sys2Proof.Machine

/-- Settles O13: the two invariants together (`State.PortsSound`) are kept by every command (`State.PortsSound.exec`), most of which
change no session and no vote and add to no queue (`State.Ports`), and so by every step. -/
theorem sessionAndQueueInvariantsKept : Obligations.SessionAndQueueInvariantsKept := by
  intro s t session queue stepped
  obtain ⟨session', queue'⟩ := State.PortsSound.step ⟨session, queue⟩ t stepped
  exact ⟨session', queue'⟩

end Sys2Proof.Proofs
end
